-- ==== Sys2Proof/Word.lean ====
section
/-! DEFINITION. The plain data of the block: the byte, the 32-bit word, the 16-byte frame (00_scope.md R9, R10;
30_encoding.md R70). All values are unsigned (R10). -/

namespace Sys2Proof

/-- One byte: a register of the host window, a byte of a frame (R9). -/
abbrev Byte := BitVec 8

/-- A 32-bit value: an event word (R74), a timestamp, the timebase value NOW (R9, R210). -/
abbrev Word := BitVec 32

/-- A frame: exactly 16 bytes, index 0 the first byte on air (R7 `FRAME_LEN`, R53, R70). -/
abbrev Frame := Vector Byte 16

/-- Bytes 0 to 13 of a frame, what the checksum covers (R7 `CK_SPAN`, R100). -/
abbrev Header := Vector Byte 14

/-- Sixteen bytes of 0x00, the reset value of every frame buffer (R231). -/
def zeroFrame : Frame := Vector.replicate 16 0x00#8

end Sys2Proof
end

