-- ==== Sys2Proof/Syntax.lean ====
section
/-! DEFINITION. The inputs of the block: one constructor of `Instr` for each of the 15 rows of
spec/opcode_table.json (30_encoding.md R75, R78), and the names of the event word's fields (R74). -/

namespace Sys2Proof

/-- An interface event, as its event word spells it (R74, R75, R78). The side operands NOW and RXDATA are no part
of the word: they stand in the machine's state as sampled ports (R74, R77). -/
inductive Instr where
  /-- TICK, with the carrier-detect bit: `true` means channel busy (R77, R161 to R164). -/
  | tick (cd : Bool)
  /-- REG_WRITE: a host write of `data` at `addr`, `addr` not 0 (R130). -/
  | regWrite (addr : BitVec 6) (data : Byte)
  /-- CMD_RESERVED: a host write of a reserved command code, 0x07 to 0xFF, to CMD (R138). -/
  | cmdReserved (data : Byte)
  /-- NOP, command 0x00 (R133). -/
  | nop
  /-- ENCODE, command 0x01 (R104). -/
  | encode
  /-- DECODE, command 0x02 (R105). -/
  | decode
  /-- START_TX, command 0x03 (R134). -/
  | startTx
  /-- START_TX_REPLY, command 0x04 (R135). -/
  | startTxReply
  /-- ACK_DONE, command 0x05 (R136). -/
  | ackDone
  /-- RX_ACK, command 0x06 (R137). -/
  | rxAck
  /-- REG_READ: a host read at `addr` (R131). -/
  | regRead (addr : BitVec 6)
  /-- TX_DONE: the radio finished one transmission (R165, R166). -/
  | txDone
  /-- RX_START: the radio begins a reception (R167). -/
  | rxStart
  /-- RX_DONE: the radio delivers a received frame of `len` bytes (R168). -/
  | rxDone (len : Byte)
  /-- RESET: the reset input (R230). -/
  | reset
deriving DecidableEq, Repr

/-- The fields of an event word (R74). A refusal of a malformed word names those that offend (R76). -/
inductive EventField where
  /-- bits 31:28 -/
  | kind
  /-- bits 27:22 -/
  | addr
  /-- bits 21:14 -/
  | data
  /-- bit 13 -/
  | cd
  /-- bits 12:8, which must be 0 -/
  | reserved
  /-- bits 7:0 -/
  | len
deriving DecidableEq, Repr

/-- The row's mnemonic in spec/opcode_table.json. -/
def mnemonic : Instr → String
  | .tick _ => "TICK"
  | .regWrite _ _ => "REG_WRITE"
  | .cmdReserved _ => "CMD_RESERVED"
  | .nop => "NOP"
  | .encode => "ENCODE"
  | .decode => "DECODE"
  | .startTx => "START_TX"
  | .startTxReply => "START_TX_REPLY"
  | .ackDone => "ACK_DONE"
  | .rxAck => "RX_ACK"
  | .regRead _ => "REG_READ"
  | .txDone => "TX_DONE"
  | .rxStart => "RX_START"
  | .rxDone _ => "RX_DONE"
  | .reset => "RESET"

end Sys2Proof
end

