-- ==== Sys2Proof/WellFormed.lean ====
section
/-! DEFINITION. The checks an instruction must pass to be spelled by an event word: the decode precedence of
30_encoding.md R79 gives ADDR 0 to the commands, and each command code with a row of its own to that row. -/

namespace Sys2Proof

/-- The instruction is one that some event word decodes to. REG_WRITE is a write away from CMD (R79, R130);
CMD_RESERVED carries a code 0x07 to 0xFF (R78, R138). Every other operand value is admitted. No word decodes
to a term that fails this check (DESIGN CHOICE, safe: notes/assumptions/16.md). -/
def wellFormed : Instr → Bool
  | .regWrite addr _ => addr != 0#6
  | .cmdReserved data => 0x07#8 ≤ data
  | .tick _ => true
  | .nop => true
  | .encode => true
  | .decode => true
  | .startTx => true
  | .startTxReply => true
  | .ackDone => true
  | .rxAck => true
  | .regRead _ => true
  | .txDone => true
  | .rxStart => true
  | .rxDone _ => true
  | .reset => true

end Sys2Proof
end

