-- ==== Sys2Proof/Decode.lean ====
section
/-! DEFINITION. The event word (30_encoding.md R74 to R81): its fields, the decoder, total on every 32-bit word and
refusing a malformed one by KIND and field (R76), the encoder, and the rows of spec/opcode_table.json with their
match and mask values (R79). -/

namespace Sys2Proof

/-! ### Fields of the event word (R74) -/

/-- KIND, bits 31:28. -/
def kindOf (w : Word) : BitVec 4 := w.extractLsb' 28 4

/-- ADDR, bits 27:22. -/
def addrOf (w : Word) : BitVec 6 := w.extractLsb' 22 6

/-- DATA, bits 21:14. -/
def dataOf (w : Word) : Byte := w.extractLsb' 14 8

/-- CD, bit 13. -/
def cdOf (w : Word) : Bool := w.getLsbD 13

/-- The reserved bits 12:8. -/
def reservedOf (w : Word) : BitVec 5 := w.extractLsb' 8 5

/-- LEN, bits 7:0. -/
def lenOf (w : Word) : Byte := w.extractLsb' 0 8

/-! ### Well-formed words (R76) -/

/-- The table of R74: which KIND uses which field. -/
def usesField (kind : BitVec 4) : EventField → Bool
  | .kind => true
  | .addr => kind == 1#4 || kind == 2#4
  | .data => kind == 1#4
  | .cd => kind == 0#4
  | .reserved => false
  | .len => kind == 5#4

/-- The field of the word is zero. -/
def fieldIsZero (w : Word) : EventField → Bool
  | .kind => kindOf w == 0#4
  | .addr => addrOf w == 0#6
  | .data => dataOf w == 0#8
  | .cd => !cdOf w
  | .reserved => reservedOf w == 0#5
  | .len => lenOf w == 0#8

/-- The field breaks R76: a KIND above 6, or a field that the KIND does not use and that is not 0. -/
def fieldOffends (w : Word) : EventField → Bool
  | .kind => 6#4 < kindOf w
  | f => !usesField (kindOf w) f && !fieldIsZero w f

/-- The fields of the word that break R76, from the highest bits down; none for a well-formed word. -/
def offendingFields (w : Word) : List EventField :=
  [.kind, .addr, .data, .cd, .reserved, .len].filter (fieldOffends w)

/-! ### Decoding (R75, R77 to R79) -/

/-- The command that a write of `c` to CMD runs (R78, R132). -/
def commandOf (c : Byte) : Instr :=
  match c.toNat with
  | 0x00 => .nop
  | 0x01 => .encode
  | 0x02 => .decode
  | 0x03 => .startTx
  | 0x04 => .startTxReply
  | 0x05 => .ackDone
  | 0x06 => .rxAck
  | _ => .cmdReserved c

/-- The event a host write spells: a command at address 0, a register write elsewhere (R79). -/
def hostWriteOf (a : BitVec 6) (v : Byte) : Instr :=
  if a = 0#6 then commandOf v else .regWrite a v

/-- The event that KIND names, with its operands (R75, R77); none for the reserved KINDs 7 to 15. -/
def eventOf (w : Word) : Option Instr :=
  match (kindOf w).toNat with
  | 0 => some (.tick (cdOf w))
  | 1 => some (hostWriteOf (addrOf w) (dataOf w))
  | 2 => some (.regRead (addrOf w))
  | 3 => some .txDone
  | 4 => some .rxStart
  | 5 => some (.rxDone (lenOf w))
  | 6 => some .reset
  | _ => none

/-- Why a word spells no event: its KIND and the fields that offend (R76). -/
structure Malformed where
  kind : BitVec 4
  fields : List EventField
deriving DecidableEq, Repr

/-- Decode an event word: the event it spells, or the refusal of R76. -/
def decode (w : Word) : Except Malformed Instr :=
  match eventOf w, offendingFields w with
  | some i, [] => .ok i
  | _, fields => .error ⟨kindOf w, fields⟩

/-! ### Encoding (R74, R75, R78) -/

/-- The event word with these fields; bits 12:8 are 0 (R74). -/
def eventWord (kind : BitVec 4) (addr : BitVec 6) (data : Byte) (cd : Bool) (len : Byte) : Word :=
  kind.setWidth 32 <<< 28 ||| addr.setWidth 32 <<< 22 ||| data.setWidth 32 <<< 14 |||
    (BitVec.ofBool cd).setWidth 32 <<< 13 ||| len.setWidth 32

/-- The word of a write of `c` to CMD (R78). -/
def commandWord (c : Byte) : Word := eventWord 1#4 0#6 c false 0#8

/-- The event word of an instruction. -/
def encode : Instr → Word
  | .tick cd => eventWord 0#4 0#6 0#8 cd 0#8
  | .regWrite addr data => eventWord 1#4 addr data false 0#8
  | .cmdReserved data => commandWord data
  | .nop => commandWord 0x00#8
  | .encode => commandWord 0x01#8
  | .decode => commandWord 0x02#8
  | .startTx => commandWord 0x03#8
  | .startTxReply => commandWord 0x04#8
  | .ackDone => commandWord 0x05#8
  | .rxAck => commandWord 0x06#8
  | .regRead addr => eventWord 2#4 addr 0#8 false 0#8
  | .txDone => eventWord 3#4 0#6 0#8 false 0#8
  | .rxStart => eventWord 4#4 0#6 0#8 false 0#8
  | .rxDone len => eventWord 5#4 0#6 0#8 false len
  | .reset => eventWord 6#4 0#6 0#8 false 0#8

/-! ### The opcode table (R79) -/

/-- A row of spec/opcode_table.json. -/
structure TableRow where
  mnemonic : String
  matchBits : Word
  mask : Word
deriving DecidableEq, Repr

/-- The 15 rows, in the table's order. -/
def opcodeTable : List TableRow :=
  [⟨"TICK", 0x00000000#32, 0xFFFFDFFF#32⟩,
   ⟨"REG_WRITE", 0x10000000#32, 0xF0003FFF#32⟩,
   ⟨"CMD_RESERVED", 0x10000000#32, 0xFFC03FFF#32⟩,
   ⟨"NOP", 0x10000000#32, 0xFFFFFFFF#32⟩,
   ⟨"ENCODE", 0x10004000#32, 0xFFFFFFFF#32⟩,
   ⟨"DECODE", 0x10008000#32, 0xFFFFFFFF#32⟩,
   ⟨"START_TX", 0x1000C000#32, 0xFFFFFFFF#32⟩,
   ⟨"START_TX_REPLY", 0x10010000#32, 0xFFFFFFFF#32⟩,
   ⟨"ACK_DONE", 0x10014000#32, 0xFFFFFFFF#32⟩,
   ⟨"RX_ACK", 0x10018000#32, 0xFFFFFFFF#32⟩,
   ⟨"REG_READ", 0x20000000#32, 0xF03FFFFF#32⟩,
   ⟨"TX_DONE", 0x30000000#32, 0xFFFFFFFF#32⟩,
   ⟨"RX_START", 0x40000000#32, 0xFFFFFFFF#32⟩,
   ⟨"RX_DONE", 0x50000000#32, 0xFFFFFF00#32⟩,
   ⟨"RESET", 0x60000000#32, 0xFFFFFFFF#32⟩]

/-- The word matches the row (R79). -/
def rowMatches (r : TableRow) (w : Word) : Bool := w &&& r.mask == r.matchBits

/-- The number of 1 bits of a mask, the row's precedence (R79). -/
def maskWeight (m : Word) : Nat := (List.range 32).countP fun k => m.getLsbD k

/-! ### The host's probe -/

/-- The 32-bit event word whose low `nbits` bits are those of `w`; an event is one word (R81). -/
def probeWord (nbits w : Nat) : Word := BitVec.ofNat 32 (w % 2 ^ nbits)

/-- The instruction the decoder reads from a word of the opcode table. -/
def decodeTableWord (nbits w : Nat) : Option Instr := (decode (probeWord nbits w)).toOption

end Sys2Proof
end

