-- ==== Sys2Proof/Config.lean ====
section
/-! DEFINITION. The elaboration-time parameters (00_scope.md R7, R8). What the spec leaves open or lets an
implementation set is one opaque configuration of which only legality (R8, R103) is known, so that a claim about the
machine holds of every legal configuration. -/

namespace Sys2Proof

/-- The parameters of R7 that an implementation may set. -/
structure Cfg where
  /-- `TX_REPEAT`: transmissions in one attempt, 1..255. -/
  txRepeat : Byte
  /-- `REPLY_TIMEOUT_MS`: any 32-bit value. -/
  replyTimeoutMs : Word
  /-- `AIRWAY_TIMEOUT_MS`: any 32-bit value. -/
  airwayTimeoutMs : Word
  /-- `BROADCAST_TYPE`: OPEN. -/
  broadcastType : Byte
  /-- `CHECKSUM`, written CK: OPEN, but for R103. -/
  checksum : Header → BitVec 16
  /-- `REPLY_RETRIES_RESET`: the reset value of REPLY_RETRIES. -/
  replyRetriesReset : Byte

/-- The byte array with bit `k` of byte `i` inverted. -/
def flipBit {n : Nat} (B : Vector Byte n) (i : Fin n) (k : Fin 8) : Vector Byte n :=
  B.set i (B[i] ^^^ BitVec.twoPow 8 k)

/-- R103: inverting any single bit of the 14 bytes changes the checksum. -/
def detectsSingleBit (ck : Header → BitVec 16) : Prop :=
  ∀ (B : Header) (i : Fin 14) (k : Fin 8), ck (flipBit B i k) ≠ ck B

/-- R8: the constraints on a configuration. -/
structure Cfg.Legal (c : Cfg) : Prop where
  /-- A `TX_REPEAT` of 0 is refused at elaboration. -/
  txRepeat_pos : 1#8 ≤ c.txRepeat
  /-- `CHECKSUM` satisfies R103. -/
  checksum_single : detectsSingleBit c.checksum

/-- A configuration that elaboration accepts (R8). -/
structure LegalCfg where
  cfg : Cfg
  legal : cfg.Legal

/-- The bytes of a list combined by exclusive or. -/
def xorAll (l : List Byte) : Byte := l.foldr (· ^^^ ·) 0#8

theorem xorAll_set (m : Byte) (l : List Byte) :
    ∀ (i : Nat) (h : i < l.length), xorAll (l.set i (l[i] ^^^ m)) = xorAll l ^^^ m := by
  induction l with
  | nil => intro i h; simp at h
  | cons a l ih =>
    intro i h
    cases i with
    | zero => simp [xorAll, BitVec.xor_assoc, BitVec.xor_comm m]
    | succ i =>
      have := ih i (by simpa using h)
      simp only [xorAll] at this
      simp [xorAll, this, BitVec.xor_assoc]

/-- The exclusive or of the 14 bytes, widened to 16 bits: a checksum that R103 allows. -/
def xorChecksum (B : Header) : BitVec 16 := (xorAll B.toList).setWidth 16

theorem xorAll_flipBit (B : Header) (i : Fin 14) (k : Fin 8) :
    xorAll (flipBit B i k).toList = xorAll B.toList ^^^ BitVec.twoPow 8 k := by
  simpa [flipBit, Vector.toList_set] using xorAll_set (BitVec.twoPow 8 k) B.toList i.val (by simp)

theorem twoPow_ne_zero : ∀ k : Fin 8, BitVec.twoPow 8 k ≠ 0#8 := by decide

theorem xorChecksum_detects : detectsSingleBit xorChecksum := by
  intro B i k h
  have h8 : xorAll (flipBit B i k).toList = xorAll B.toList := by
    simpa [xorChecksum] using congrArg (BitVec.setWidth 8) h
  rw [xorAll_flipBit] at h8
  have := congrArg (xorAll B.toList ^^^ ·) h8
  exact twoPow_ne_zero k (by simpa [← BitVec.xor_assoc] using this)

/-- Some configuration is legal. It shows only that the legal configurations are not empty; nothing says that the
machine has this one. -/
def someLegalCfg : LegalCfg where
  cfg :=
    { txRepeat := 1, replyTimeoutMs := 0, airwayTimeoutMs := 0, broadcastType := 0
      checksum := xorChecksum, replyRetriesReset := 0 }
  legal := { txRepeat_pos := by decide, checksum_single := xorChecksum_detects }

/-- FREE VALUE: the configuration this block was elaborated with. It has no body: it is legal, and nothing else about
it can be proved (R7, R8, R103). DESIGN CHOICE, safe: notes/assumptions/1.md. The bracketed argument says only that a legal one exists. -/
opaque Config.elaborated [Inhabited LegalCfg] : LegalCfg

/-- The configuration of the block: the elaborated one, with the `REPLY_RETRIES_RESET` of 10 that R7, R37, R40, R131 and
R231 state without calling it a default. DEDUCED, unsafe where a block is elaborated with another value:
notes/assumptions/2.md. -/
def Config.cfg : Cfg := { (@Config.elaborated ⟨someLegalCfg⟩).cfg with replyRetriesReset := 0x0A#8 }

/-- R8 holds of the configuration of the block. -/
theorem Config.cfg_legal : Config.cfg.Legal :=
  have h := (@Config.elaborated ⟨someLegalCfg⟩).legal
  { txRepeat_pos := h.txRepeat_pos, checksum_single := h.checksum_single }

@[simp] theorem Config.cfg_replyRetriesReset : Config.cfg.replyRetriesReset = 0x0A#8 := rfl

/-- FREE VALUE: `ZRF_BASE`, where the platform places the 64-byte window. No rule reads it (R65). DESIGN
CHOICE, safe: notes/assumptions/18.md. -/
opaque Config.zrfBase : Nat

end Sys2Proof
end

