-- ==== Sys2Proof/Machine/State.lean ====
section
/-! DEFINITION. The state of the block (10_state.md R20 to R39), its reset values (70_reset_and_hazards.md R231), and
the model's own interface around it: pending events, sampled ports, outputs of the latest step. -/

namespace Sys2Proof.Machine

/-- STATE, 3 bits (R23). The codes 5, 6 and 7 are never written, so no constructor stands for them (DEDUCED, safe:
notes/assumptions/7.md). -/
inductive TransportState where
  /-- code 0: the slot is free -/
  | idle
  /-- code 1: waiting for a clear channel -/
  | waitAirwayFree
  /-- code 2: a repeat is on air -/
  | txBusy
  /-- code 3: waiting for a reply -/
  | rxWait
  /-- code 4: a reception began during the reply wait -/
  | rxBusy
deriving DecidableEq, Repr

/-- The result codes of R201, 2 bits: CMD_RESULT takes all four, COMP_RESULT only SUCCESS and FAILURE
(R31; DEDUCED, safe: notes/assumptions/17.md). -/
inductive Result where
  /-- code 0 -/
  | success
  /-- code 1 -/
  | busy
  /-- code 2 -/
  | failure
  /-- code 3 -/
  | illegal
deriving DecidableEq, Repr

/-- DEC_STATUS, 2 bits (R33, R202). Code 3 is never written, so no constructor stands for it (DEDUCED, safe:
notes/assumptions/7.md). -/
inductive DecStatus where
  /-- code 0 -/
  | ok
  /-- code 1 -/
  | invalidLength
  /-- code 2 -/
  | invalidChecksum
deriving DecidableEq, Repr

/-- The block's state: the fields of R23 to R39 and nothing else (R20). -/
structure Block where
  /-- STATE (R23) -/
  state : TransportState
  /-- REPLY_REQ (R24) -/
  replyReq : Bool
  /-- TXFRAME (R25) -/
  txFrame : Frame
  /-- TAG, hidden (R26) -/
  tag : Byte
  /-- RETRIES_LEFT (R27) -/
  retriesLeft : Byte
  /-- REPEATS_LEFT (R28) -/
  repeatsLeft : Byte
  /-- SEND_TS, hidden (R29) -/
  sendTs : Word
  /-- AIR_TS, hidden (R30) -/
  airTs : Word
  /-- DONE (R31) -/
  done : Bool
  /-- COMP_RESULT (R31) -/
  compResult : Result
  /-- COMP_REPLY (R31) -/
  compReply : Bool
  /-- COMP_TAG (R31) -/
  compTag : Byte
  /-- RXBUF (R32) -/
  rxBuf : Frame
  /-- RXV (R32) -/
  rxv : Bool
  /-- RX_OVF (R32) -/
  rxOvf : Bool
  /-- CMD_RESULT (R33) -/
  cmdResult : Result
  /-- DEC_STATUS (R33) -/
  decStatus : DecStatus
  /-- FB (R34) -/
  fb : Frame
  /-- FLEN (R35) -/
  flen : Byte
  /-- TX_TAG (R36) -/
  txTag : Byte
  /-- REPLY_RETRIES (R37) -/
  replyRetries : Byte
  /-- MY_TYPE (R38) -/
  myType : Byte
  /-- MY_ID (R38) -/
  myId : Byte
  /-- IRQ_EN bit 0, DONE_IE (R39) -/
  doneIe : Bool
  /-- IRQ_EN bit 1, RXV_IE (R39) -/
  rxvIe : Bool
deriving DecidableEq, Repr

/-- The reset state of a block of any configuration: the table of R231, field by field; REPLY_RETRIES takes the
parameter `REPLY_RETRIES_RESET` (R7, R37). -/
def Block.resetOf (cfg : Cfg) : Block where
  state := .idle
  replyReq := false
  txFrame := zeroFrame
  tag := 0x00#8
  retriesLeft := 0#8
  repeatsLeft := 0#8
  sendTs := 0#32
  airTs := 0#32
  done := false
  compResult := .success
  compReply := false
  compTag := 0x00#8
  rxBuf := zeroFrame
  rxv := false
  rxOvf := false
  cmdResult := .success
  decStatus := .ok
  fb := zeroFrame
  flen := 0x10#8
  txTag := 0x00#8
  replyRetries := cfg.replyRetriesReset
  myType := 0x00#8
  myId := 0x00#8
  doneIe := false
  rxvIe := false

/-- The reset state of this block (R231). -/
def Block.reset : Block := Block.resetOf Config.cfg

/-- An event as the environment presents it: the event word and the side operands NOW and RXDATA (R74). RXDATA has a
meaning for RX_DONE only; other events ignore it. -/
structure Event where
  word : Word
  now : Word
  rxData : Frame
deriving DecidableEq, Repr

/-- The machine: the block, and the model's own interface to its agents (R6, R12). `inbox` is the sequence of events
the environment has chosen, oldest first (R58, R160); `now` and `rxData` are the operands sampled with the current
event (R74); `sent` and `readData` are what the latest step put out: the frame of a `send` (R11), the value of a host
read (R131). They are not state of the block. DESIGN CHOICE, safe: notes/assumptions/3.md and 4.md; `now` and
`rxData`, unsafe: notes/assumptions/5.md. -/
structure State where
  block : Block
  inbox : List Event
  now : Word
  rxData : Frame
  sent : Option Frame
  readData : Option Byte
deriving DecidableEq, Repr

/-- The machine right after reset: the block as R231 says, no event pending, no output. The sampled ports hold 0 until
the first event samples them (DESIGN CHOICE, unsafe: notes/assumptions/5.md). -/
def State.reset : State where
  block := Block.reset
  inbox := []
  now := 0#32
  rxData := zeroFrame
  sent := none
  readData := none

/-- A step of this block never faults: R200 gives it no exception, trap or fault, so no constructor exists. Safe
(DEDUCED: notes/assumptions/14.md). -/
inductive Fault where
deriving DecidableEq, Repr

/-- Why a step takes no step. -/
inductive Refusal where
  /-- An instruction without a meaning. Raised by nothing in this model: every arm of `exec` has its meaning. Safe. -/
  | notModelled (mnemonic : String)
  /-- An event word that spells no event, with its KIND and the fields that offend (R76). Raised by `step` when it
  decodes such a word. Safe: the hardware has separate ports and cannot receive it. DESIGN CHOICE: every
  field that offends is named, notes/assumptions/8.md. -/
  | malformedEvent (kind : BitVec 4) (fields : List EventField)
deriving DecidableEq, Repr

end Sys2Proof.Machine
end

