-- ==== Sys2Proof/Machine/Flags.lean ====
section
/-! DEFINITION. The numeric codes of the state and result fields (10_state.md R23, R41; 60_exceptions.md R201, R202),
the register views made of them (20_memory.md R55), and the interrupt output (60_exceptions.md R205). -/

namespace Sys2Proof.Machine

/-- The 3-bit code of STATE (R23). -/
def stateCode : TransportState → BitVec 3
  | .idle => 0#3
  | .waitAirwayFree => 1#3
  | .txBusy => 2#3
  | .rxWait => 3#3
  | .rxBusy => 4#3

/-- The 2-bit code of a result (R201). -/
def resultCode : Result → BitVec 2
  | .success => 0#2
  | .busy => 1#2
  | .failure => 2#2
  | .illegal => 3#2

/-- The 2-bit code of DEC_STATUS (R202). -/
def decStatusCode : DecStatus → BitVec 2
  | .ok => 0#2
  | .invalidLength => 1#2
  | .invalidChecksum => 2#2

/-- TSTATE: bit 3 REPLY_REQ, bits 2:0 STATE (R40, R55). -/
def tstateView (b : Block) : Byte := (BitVec.ofBool b.replyReq ++ stateCode b.state).setWidth 8

/-- RESULT: bits 3:2 DEC_STATUS, bits 1:0 CMD_RESULT (R40, R55). -/
def resultView (b : Block) : Byte := (decStatusCode b.decStatus ++ resultCode b.cmdResult).setWidth 8

/-- COMP: bit 3 COMP_REPLY, bits 2:1 COMP_RESULT, bit 0 DONE (R40, R55). -/
def compView (b : Block) : Byte :=
  (BitVec.ofBool b.compReply ++ resultCode b.compResult ++ BitVec.ofBool b.done).setWidth 8

/-- RXSTAT: bit 1 RX_OVF, bit 0 RXV (R40, R55). -/
def rxstatView (b : Block) : Byte := (BitVec.ofBool b.rxOvf ++ BitVec.ofBool b.rxv).setWidth 8

/-- IRQ_EN: bit 1 RXV_IE, bit 0 DONE_IE (R40, R55). -/
def irqEnView (b : Block) : Byte := (BitVec.ofBool b.rxvIe ++ BitVec.ofBool b.doneIe).setWidth 8

/-- The level-sensitive interrupt output, recomputed from the state after every step (R205), hence not stored
(DEDUCED, safe: notes/assumptions/19.md). -/
def irq (b : Block) : Bool := (b.done && b.doneIe) || (b.rxv && b.rxvIe)

end Sys2Proof.Machine
end

