-- ==== Sys2Proof/Machine/Operands.lean ====
section
/-! DEFINITION. The operands: the fields of a frame (30_encoding.md R70), its header and trailer (40_codec.md R100,
R102), and the elapsed time of a stamp (00_scope.md R10). The operands of an event word are read once, in
Sys2Proof/Decode.lean (R77). -/

namespace Sys2Proof.Machine

/-! ### The wire frame (R70) -/

def dstType (F : Frame) : Byte := F[0]
def dstId (F : Frame) : Byte := F[1]
def srcType (F : Frame) : Byte := F[2]
def srcId (F : Frame) : Byte := F[3]
def ttl (F : Frame) : Byte := F[4]
def opcode (F : Frame) : Byte := F[5]

/-- PAYLOAD[k], at offset 6 + k (R70). -/
def payload (F : Frame) (k : Fin 8) : Byte := F[6 + k.val]

def ckHi (F : Frame) : Byte := F[14]
def ckLo (F : Frame) : Byte := F[15]

/-- Bytes 0 to 13, what the checksum covers (R100). -/
def header (F : Frame) : Header := Vector.ofFn fun i : Fin 14 => F[i.val]

/-- The checksum trailer: bits 15:8 at byte 14, bits 7:0 at byte 15 (R54, R102). The order is no
parameter (DEDUCED, unsafe against a fan of the other order: notes/assumptions/11.md). -/
def trailer (F : Frame) : BitVec 16 := ckHi F ++ ckLo F

/-- The frame with `ck` as its trailer, high byte first (R102). -/
def setTrailer (F : Frame) (ck : BitVec 16) : Frame :=
  (F.set 14 (ck.extractLsb' 8 8)).set 15 (ck.extractLsb' 0 8)

/-- The checksum of the frame's bytes 0 to 13 (R100). -/
def frameChecksum (cfg : Cfg) (F : Frame) : BitVec 16 := cfg.checksum (header F)

/-! ### Elapsed time -/

/-- `(now - stamp) mod 2^32` (R10, R210). Any NOW is allowed (DESIGN CHOICE, safe: notes/assumptions/12.md). -/
def elapsed (now stamp : Word) : Word := now - stamp

/-- The timeout has passed: strictly more than `limit` ms since `stamp` (R163, R164, R211). -/
def expired (limit now stamp : Word) : Bool := limit < elapsed now stamp

end Sys2Proof.Machine
end

