-- ==== Sys2Proof/Machine/Ops.lean ====
section
/-! DEFINITION. The named operations that the meanings share: the register window (20_memory.md R55, 41_host_ops.md
R130), the receive predicate and forwarding (40_codec.md R111 to R113), acquiring the slot (41_host_ops.md R134, R135),
completion (42_transport_events.md R170), which is this block's nearest counterpart of taking an exception (R208), the
end of a step (00_scope.md R12) and the presenting and fetching of events (R58, R160). -/

namespace Sys2Proof.Machine

/-! ### The host register window -/

/-- `reg[a]`, what a host read at `a` returns (R55). CMD and the reserved addresses 0x0E and 0x0F return 0x00.
The window is computed from the fields, there is no memory behind it (DEDUCED, safe: notes/assumptions/9.md). -/
def readReg (b : Block) (a : BitVec 6) : Byte :=
  if a = 0x01#6 then tstateView b
  else if a = 0x02#6 then resultView b
  else if a = 0x03#6 then compView b
  else if a = 0x04#6 then b.compTag
  else if a = 0x05#6 then rxstatView b
  else if a = 0x06#6 then irqEnView b
  else if a = 0x07#6 then b.txTag
  else if a = 0x08#6 then b.replyRetries
  else if a = 0x09#6 then b.myType
  else if a = 0x0A#6 then b.myId
  else if a = 0x0B#6 then b.flen
  else if a = 0x0C#6 then b.retriesLeft
  else if a = 0x0D#6 then b.repeatsLeft
  else if h : 0x10 ≤ a.toNat ∧ a.toNat < 0x20 then b.fb[a.toNat - 0x10]
  else if h : 0x20 ≤ a.toNat ∧ a.toNat < 0x30 then b.rxBuf[a.toNat - 0x20]
  else if h : 0x30 ≤ a.toNat then b.txFrame[a.toNat - 0x30]
  else 0x00#8

/-- The effect of a host write of `v` at a register address `a` (R130). A write to a read-only or reserved address
changes nothing (R52); bits 7:2 of IRQ_EN are ignored. -/
def writeReg (b : Block) (a : BitVec 6) (v : Byte) : Block :=
  if a = 0x06#6 then { b with doneIe := v.getLsbD 0, rxvIe := v.getLsbD 1 }
  else if a = 0x07#6 then { b with txTag := v }
  else if a = 0x08#6 then { b with replyRetries := v }
  else if a = 0x09#6 then { b with myType := v }
  else if a = 0x0A#6 then { b with myId := v }
  else if a = 0x0B#6 then { b with flen := v }
  else if h : 0x10 ≤ a.toNat ∧ a.toNat < 0x20 then { b with fb := b.fb.set (a.toNat - 0x10) v }
  else b

/-! ### The receive path -/

/-- `addr_match(D)`: the broadcast type, or the block's own type and id (R111). -/
def addrMatch (cfg : Cfg) (b : Block) (D : Frame) : Bool :=
  dstType D == cfg.broadcastType || (dstType D == b.myType && dstId D == b.myId)

/-- `accept(RXLEN, D)`: length, checksum, address (R110, R112, R207). -/
def accept (cfg : Cfg) (b : Block) (rxLen : Byte) (D : Frame) : Bool :=
  rxLen == 16#8 && frameChecksum cfg D == trailer D && addrMatch cfg b D

/-- `forward(D)`: an accepted frame replaces the receive buffer; an unacknowledged one is lost with RX_OVF (R113). -/
def forward (D : Frame) (b : Block) : Block :=
  { b with rxOvf := b.rxOvf || b.rxv, rxBuf := D, rxv := true }

/-! ### The pending transmission -/

/-- `startTransmit`: BUSY when the slot is occupied, else the slot is filled from FB, TX_TAG and the retry count, in
one step (R134, R135, R140). -/
def startTransmit (reply : Bool) (retries : Byte) (now : Word) (b : Block) : Block :=
  match b.state with
  | .idle =>
    { b with
      txFrame := b.fb
      tag := b.txTag
      replyReq := reply
      retriesLeft := retries
      repeatsLeft := 0#8
      airTs := now
      state := .waitAirwayFree
      cmdResult := .success }
  | .waitAirwayFree | .txBusy | .rxWait | .rxBusy => { b with cmdResult := .busy }

/-- `complete(r, rep)`: the completion record is written and the slot is freed; TXFRAME, TAG, SEND_TS and AIR_TS keep
their values (R170, R208). -/
def complete (r : Result) (rep : Bool) (b : Block) : Block :=
  { b with
    done := true
    compResult := r
    compReply := rep
    compTag := b.tag
    state := .idle
    replyReq := false
    retriesLeft := 0#8
    repeatsLeft := 0#8 }

/-! ### The end of a step, and the next event -/

/-- The end of a step: the block's new state, the frame sent if any, the value read if any (R12, R131). -/
def finish (s : State) (b : Block) (sent : Option Frame) (readData : Option Byte) : State :=
  { s with block := b, sent := sent, readData := readData }

/-- The end of a step without output. -/
def quiet (s : State) (b : Block) : State := finish s b none none

/-- The end of a step of the transport, with the frame it sends if any. -/
def emit (s : State) (r : Block × Option Frame) : State := finish s r.1 r.2 none

/-- The oldest pending event is taken and its operands sampled (R58, R74, R160). -/
def sample (s : State) (e : Event) (rest : List Event) : State :=
  { s with inbox := rest, now := e.now, rxData := e.rxData }

/-- The environment presents one more event. -/
def present (s : State) (e : Event) : State := { s with inbox := s.inbox ++ [e] }

/-- The next event's word becomes `w`; where no event is pending, one is made of `w` and the ports as last sampled. -/
def placeWord (s : State) (w : Word) : State :=
  match s.inbox with
  | [] => { s with inbox := [{ word := w, now := s.now, rxData := s.rxData }] }
  | e :: rest => { s with inbox := { e with word := w } :: rest }

end Sys2Proof.Machine
end

