-- ==== Sys2Proof/Machine/Codec.lean ====
section
/-! DEFINITION. The frame codec: ENCODE and DECODE (40_codec.md R104 to R106). Both touch FB and the result fields only,
in every STATE (20_memory.md R63). -/

namespace Sys2Proof.Machine

/-- FB[14..15] becomes the checksum of FB[0..13] (R104). -/
def encodeFrame (cfg : Cfg) (b : Block) : Block :=
  { b with fb := setTrailer b.fb (frameChecksum cfg b.fb), cmdResult := .success }

/-- The outcome of decoding FB: length first, then checksum (R105, R106). -/
def decodeOutcome (cfg : Cfg) (b : Block) : DecStatus :=
  if b.flen ≠ 16#8 then .invalidLength
  else if frameChecksum cfg b.fb ≠ trailer b.fb then .invalidChecksum
  else .ok

/-- DEC_STATUS takes the outcome, CMD_RESULT is SUCCESS only when it is OK; FB is never written (R105). -/
def decodeFrame (cfg : Cfg) (b : Block) : Block :=
  let outcome := decodeOutcome cfg b
  { b with decStatus := outcome, cmdResult := if outcome = .ok then .success else .failure }

/-- ENCODE (R104). -/
def execEncode (s : State) : Host.Outcome State Fault Refusal :=
  .next (quiet s (encodeFrame Config.cfg s.block))

/-- DECODE (R105). -/
def execDecode (s : State) : Host.Outcome State Fault Refusal :=
  .next (quiet s (decodeFrame Config.cfg s.block))

end Sys2Proof.Machine
end

