-- ==== Sys2Proof/Machine/HostOps.lean ====
section
/-! DEFINITION. The host's operations: register write and read, and the commands of the transport (41_host_ops.md R130
to R138). -/

namespace Sys2Proof.Machine

/-- REG_WRITE: the addressed register, and nothing else; CMD_RESULT is not changed (R130, R52). -/
def execRegWrite (addr : BitVec 6) (data : Byte) (s : State) : Host.Outcome State Fault Refusal :=
  .next (quiet s (writeReg s.block addr data))

/-- REG_READ: the value of the register, with no side effect (R131, R55, R56). -/
def execRegRead (addr : BitVec 6) (s : State) : Host.Outcome State Fault Refusal :=
  .next (finish s s.block none (some (readReg s.block addr)))

/-- NOP (R133). -/
def execNop (s : State) : Host.Outcome State Fault Refusal :=
  .next (quiet s { s.block with cmdResult := .success })

/-- START_TX: `replyRetries = none` (R134). -/
def execStartTx (s : State) : Host.Outcome State Fault Refusal :=
  .next (quiet s (startTransmit false 0#8 s.now s.block))

/-- START_TX_REPLY: `replyRetries = REPLY_RETRIES` (R135). -/
def execStartTxReply (s : State) : Host.Outcome State Fault Refusal :=
  .next (quiet s (startTransmit true s.block.replyRetries s.now s.block))

/-- ACK_DONE (R136). -/
def execAckDone (s : State) : Host.Outcome State Fault Refusal :=
  .next (quiet s { s.block with done := false, cmdResult := .success })

/-- RX_ACK (R137). -/
def execRxAck (s : State) : Host.Outcome State Fault Refusal :=
  .next (quiet s { s.block with rxv := false, rxOvf := false, cmdResult := .success })

/-- CMD_RESERVED: ILLEGAL, whatever the reserved code (R138). -/
def execCmdReserved (_data : Byte) (s : State) : Host.Outcome State Fault Refusal :=
  .next (quiet s { s.block with cmdResult := .illegal })

end Sys2Proof.Machine
end

