-- ==== Sys2Proof/Machine/Transport.lean ====
section
/-! DEFINITION. The events of the transport state machine: TICK, TX_DONE, RX_START, RX_DONE (42_transport_events.md
R160 to R169), and RESET (70_reset_and_hazards.md R230). An event in a state that does not expect it changes nothing
(R166 to R168, R204). TxBusy has no timeout (R161, R239). The radio's duties of R213 are not
assumed (DESIGN CHOICE, safe: notes/assumptions/13.md). -/

namespace Sys2Proof.Machine

/-- TICK by STATE: channel sense and airway deadline (R162, R163), reply timeout (R164), nothing in Idle or TxBusy
(R161). A clear channel is looked at before the deadline (R207). -/
def tick (cfg : Cfg) (cd : Bool) (now : Word) (b : Block) : Block × Option Frame :=
  match b.state with
  | .idle | .txBusy => (b, none)
  | .waitAirwayFree =>
    if cd then
      if expired cfg.airwayTimeoutMs now b.airTs then (complete .failure false b, none) else (b, none)
    else
      ({ b with repeatsLeft := cfg.txRepeat - 1#8, state := .txBusy }, some b.txFrame)
  | .rxWait | .rxBusy =>
    if expired cfg.replyTimeoutMs now b.sendTs then
      if 0#8 < b.retriesLeft then
        ({ b with retriesLeft := b.retriesLeft - 1#8, airTs := now, state := .waitAirwayFree }, none)
      else (complete .failure false b, none)
    else (b, none)

/-- TX_DONE by STATE: the next repeat, the reply wait, or completion (R165); ignored outside TxBusy (R166). -/
def transmitDone (now : Word) (b : Block) : Block × Option Frame :=
  match b.state with
  | .txBusy =>
    if 0#8 < b.repeatsLeft then ({ b with repeatsLeft := b.repeatsLeft - 1#8 }, some b.txFrame)
    else if b.replyReq then ({ b with sendTs := now, state := .rxWait }, none)
    else (complete .success false b, none)
  | .idle | .waitAirwayFree | .rxWait | .rxBusy => (b, none)

/-- RX_START: RxWait becomes RxBusy (R167). -/
def receiveStart (b : Block) : Block :=
  match b.state with
  | .rxWait => { b with state := .rxBusy }
  | .idle | .waitAirwayFree | .txBusy | .rxBusy => b

/-- RX_DONE by STATE: dropped in TxBusy; an accepted frame is forwarded, and then completes a reply wait (R168). -/
def receiveDone (cfg : Cfg) (rxLen : Byte) (D : Frame) (b : Block) : Block :=
  match b.state with
  | .txBusy => b
  | .idle | .waitAirwayFree => if accept cfg b rxLen D then forward D b else b
  | .rxWait | .rxBusy => if accept cfg b rxLen D then complete .success true (forward D b) else b

/-- TICK (R161 to R164). -/
def execTick (cd : Bool) (s : State) : Host.Outcome State Fault Refusal :=
  .next (emit s (tick Config.cfg cd s.now s.block))

/-- TX_DONE (R165, R166). -/
def execTxDone (s : State) : Host.Outcome State Fault Refusal :=
  .next (emit s (transmitDone s.now s.block))

/-- RX_START (R167). -/
def execRxStart (s : State) : Host.Outcome State Fault Refusal :=
  .next (quiet s (receiveStart s.block))

/-- RX_DONE (R168). -/
def execRxDone (len : Byte) (s : State) : Host.Outcome State Fault Refusal :=
  .next (quiet s (receiveDone Config.cfg len s.rxData s.block))

/-- RESET: every field of the block takes its reset value; a pending transmission gets no completion (R230, R232). -/
def execReset (s : State) : Host.Outcome State Fault Refusal :=
  .next (quiet s Block.reset)

end Sys2Proof.Machine
end

