-- ==== Sys2Proof/Machine/Dispatch.lean ====
section
/-! DEFINITION. One arm for each instruction, one meaning for each arm. -/

namespace Sys2Proof.Machine

def exec (i : Instr) (s : State) : Host.Outcome State Fault Refusal :=
  match i with
  | .tick cd => Sys2Proof.Machine.execTick cd s
  | .regWrite addr data => Sys2Proof.Machine.execRegWrite addr data s
  | .cmdReserved data => Sys2Proof.Machine.execCmdReserved data s
  | .nop => Sys2Proof.Machine.execNop s
  | .encode => Sys2Proof.Machine.execEncode s
  | .decode => Sys2Proof.Machine.execDecode s
  | .startTx => Sys2Proof.Machine.execStartTx s
  | .startTxReply => Sys2Proof.Machine.execStartTxReply s
  | .ackDone => Sys2Proof.Machine.execAckDone s
  | .rxAck => Sys2Proof.Machine.execRxAck s
  | .regRead addr => Sys2Proof.Machine.execRegRead addr s
  | .txDone => Sys2Proof.Machine.execTxDone s
  | .rxStart => Sys2Proof.Machine.execRxStart s
  | .rxDone len => Sys2Proof.Machine.execRxDone len s
  | .reset => Sys2Proof.Machine.execReset s

end Sys2Proof.Machine
end

