-- ==== Sys2Proof/Machine/Step.lean ====
section
/-! DEFINITION. One step: the oldest pending event is taken, decoded and run (00_scope.md R12, 42_transport_events.md
R160). -/

namespace Sys2Proof.Machine

/-- One step. A malformed word is refused by KIND and field (R76). With no event pending the block does not advance
(R22): nothing changes and nothing is put out (DESIGN CHOICE, safe: notes/assumptions/6.md). -/
def step (s : State) : Host.Outcome State Fault Refusal :=
  match s.inbox with
  | [] => .next (quiet s s.block)
  | e :: rest =>
    match decode e.word with
    | .ok i => exec i (sample s e rest)
    | .error m => .refused (.malformedEvent m.kind m.fields)

/-- The event word of the host's probe is put where `step` takes its next event. -/
def State.withFetchWord (s : State) (nbits w : Nat) : State := placeWord s (probeWord nbits w)

end Sys2Proof.Machine
end

