-- ==== Sys2Proof/Machine/Checksum.lean ====
section
/-! DEFINITION. The default configuration of 00_scope.md R7, with the default checksum of 40_codec.md R101: the values
that the spec's concrete vectors take. The machine itself runs with `Config.cfg`, of which the spec leaves CHECKSUM and
BROADCAST_TYPE open; these defaults serve the vectors and a statement about R103. -/

namespace Sys2Proof.Machine

/-- One bit of the default CRC: shift left, and fold in 0x1021 when the top bit was 1 (R101). -/
def crcBit (c : BitVec 16) : BitVec 16 :=
  if c.getLsbD 15 then (c <<< 1) ^^^ 0x1021#16 else c <<< 1

/-- One byte of the default CRC, most significant bit first (R101). -/
def crcByte (c : BitVec 16) (v : Byte) : BitVec 16 :=
  Nat.repeat crcBit 8 (c ^^^ (v.setWidth 16 <<< 8))

/-- The default CRC over a list of bytes, from the initial value 0xFFFF (R101). -/
def crcList (l : List Byte) : BitVec 16 := l.foldl crcByte 0xFFFF#16

/-- The default `CHECKSUM`: CRC-16, polynomial 0x1021, initial value 0xFFFF, not reflected, no final XOR (R101). -/
def defaultChecksum (B : Header) : BitVec 16 := crcList B.toList

/-- The value column of R7. -/
def defaultCfg : Cfg where
  txRepeat := 4#8
  replyTimeoutMs := 1000#32
  airwayTimeoutMs := 5000#32
  broadcastType := 0x00#8
  checksum := defaultChecksum
  replyRetriesReset := 0x0A#8

end Sys2Proof.Machine
end

