-- ==== Sys2Proof/Machine/Arbiter.lean ====
section
/-! DEFINITION. Events that reach the block in the same clock cycle (60_exceptions.md R206): one input latch for each
source, emptied in a fixed order. DESIGN CHOICE, safe but for the equal NOW of one cycle:
notes/assumptions/10.md. -/

namespace Sys2Proof.Machine

/-- What the host bus presents in one cycle: a write or a read, never both (R206). -/
inductive HostAccess where
  | write (addr : BitVec 6) (data : Byte)
  | read (addr : BitVec 6)
deriving DecidableEq, Repr

/-- The one-deep input latches of one cycle, and the NOW that every event of it samples (R206, R210). -/
structure Cycle where
  now : Word
  reset : Bool
  /-- RXLEN and RXDATA -/
  rxDone : Option (Byte × Frame)
  txDone : Bool
  rxStart : Bool
  host : Option HostAccess
  /-- the carrier-detect bit -/
  tick : Option Bool
deriving DecidableEq, Repr

/-- The event of an instruction whose RXDATA does not matter. -/
def plainEvent (now : Word) (i : Instr) : Event := { word := encode i, now := now, rxData := zeroFrame }

/-- The instruction of a host access (R75, R79). -/
def hostInstr : HostAccess → Instr
  | .write a v => hostWriteOf a v
  | .read a => .regRead a

/-- The cycle's events in the fixed order: RESET alone, which discards the others, else RX_DONE, TX_DONE, RX_START, the
host access, TICK (R206). -/
def arbitrate (c : Cycle) : List Event :=
  if c.reset then [plainEvent c.now .reset]
  else
    c.rxDone.toList.map (fun r => { word := encode (.rxDone r.1), now := c.now, rxData := r.2 })
      ++ (if c.txDone then [plainEvent c.now .txDone] else [])
      ++ (if c.rxStart then [plainEvent c.now .rxStart] else [])
      ++ c.host.toList.map (fun h => plainEvent c.now (hostInstr h))
      ++ c.tick.toList.map (fun cd => plainEvent c.now (.tick cd))

/-- The environment presents one cycle's events, behind those still pending (R206). -/
def presentCycle (s : State) (c : Cycle) : State := { s with inbox := s.inbox ++ arbitrate c }

end Sys2Proof.Machine
end

