-- ==== Sys2Proof/Machine/Program.lean ====
section
/-! DEFINITION. Host programs (30_encoding.md R82 to R84): one event a line, as data and in the spec's text notation,
which is read line by line. What the notation leaves open is said in notes/assumptions/15.md (DESIGN CHOICE, unsafe for
decimal bytes of two digits in a byte list). -/

namespace Sys2Proof.Machine

/-- A line of a program (R82). The value a read expects is the program's remark: it does not act on the block. -/
inductive Line where
  | wr (a : BitVec 6) (v : Byte)
  | rd (a : BitVec 6) (expected : Option Byte)
  | tick (cd : Bool)
  | txDone
  | rxStart
  | rxDone (n : Byte) (D : Frame)
  | reset
deriving DecidableEq, Repr

/-- A line with its NOW, where the line gives one (R82). -/
structure TimedLine where
  time : Option Word
  line : Line
deriving DecidableEq, Repr

/-! ### Pseudo-instructions (R83) -/

def lineNop : Line := .wr 0x00#6 0x00#8
def lineEncode : Line := .wr 0x00#6 0x01#8
def lineDecode : Line := .wr 0x00#6 0x02#8
def lineStx : Line := .wr 0x00#6 0x03#8
def lineStxr : Line := .wr 0x00#6 0x04#8
def lineAckd : Line := .wr 0x00#6 0x05#8
def lineRxack : Line := .wr 0x00#6 0x06#8

/-- Writes of successive bytes from an address on. -/
def loadLines (a : BitVec 6) : List Byte → List Line
  | [] => []
  | v :: rest => .wr a v :: loadLines (a + 1#6) rest

/-- LDFB: sixteen writes, to 0x10 and on (R83). -/
def lineLdfb (B : Frame) : List Line := loadLines 0x10#6 B.toList

/-- LDFB14: fourteen writes, to 0x10 and on (R83). -/
def lineLdfb14 (B : Header) : List Line := loadLines 0x10#6 B.toList

/-! ### Assembly (R82, R84) -/

/-- The event a line spells. -/
def lineInstr : Line → Instr
  | .wr a v => hostWriteOf a v
  | .rd a _ => .regRead a
  | .tick cd => .tick cd
  | .txDone => .txDone
  | .rxStart => .rxStart
  | .rxDone n _ => .rxDone n
  | .reset => .reset

/-- The event of a line at a time: its word, NOW, and RXDATA where it has one (R84). -/
def lineEvent (now : Word) (l : Line) : Event :=
  { word := encode (lineInstr l), now := now
    rxData := match l with
      | .rxDone _ D => D
      | .wr _ _ | .rd _ _ | .tick _ | .txDone | .rxStart | .reset => zeroFrame }

/-- The events of a program; a line without a time keeps that of the line before it (R82). -/
def assembleFrom (now : Word) : List TimedLine → List Event
  | [] => []
  | l :: rest => lineEvent (l.time.getD now) l.line :: assembleFrom (l.time.getD now) rest

/-- The events of a program; the first line's time is 0 unless it gives one (R82). -/
def assemble (p : List TimedLine) : List Event := assembleFrom 0#32 p

/-- A program is presented to the machine, behind what is still pending. -/
def loadProgram (s : State) (p : List TimedLine) : State := { s with inbox := s.inbox ++ assemble p }

/-! ### The text notation (R82, R83) -/

/-- The value of a digit, in hexadecimal. -/
def digitValue (c : Char) : Option Nat :=
  if '0' ≤ c ∧ c ≤ '9' then some (c.toNat - '0'.toNat)
  else if 'a' ≤ c ∧ c ≤ 'f' then some (c.toNat - 'a'.toNat + 10)
  else if 'A' ≤ c ∧ c ≤ 'F' then some (c.toNat - 'A'.toNat + 10)
  else none

/-- The value of a row of digits, behind digits of value `acc`; none where a character is no digit of the base. -/
def digitsValue (base acc : Nat) : List Char → Option Nat
  | [] => some acc
  | c :: rest =>
    match digitValue c with
    | some d => if d < base then digitsValue base (acc * base + d) rest else none
    | none => none

/-- A number: hexadecimal behind `0x`, else decimal (R82). -/
def numberValue (token : List Char) : Option Nat :=
  match token with
  | [] => none
  | '0' :: 'x' :: c :: rest => digitsValue 16 0 (c :: rest)
  | c :: rest => digitsValue 10 0 (c :: rest)

/-- A number below `2 ^ n`. -/
def numberOfWidth (n : Nat) (token : List Char) : Option (BitVec n) :=
  (numberValue token).bind fun v => if v < 2 ^ n then some (BitVec.ofNat n v) else none

/-- A byte of a byte list: two hexadecimal digits as in the spec's programs, else a number (R82, R83). -/
def listByte (token : List Char) : Option Byte :=
  match token with
  | [c, d] => (digitsValue 16 0 [c, d]).map (BitVec.ofNat 8)
  | _ => numberOfWidth 8 token

/-- The bytes of a byte list. -/
def listBytes : List (List Char) → Option (List Byte)
  | [] => some []
  | token :: rest => (listByte token).bind fun v => (listBytes rest).map (v :: ·)

/-- Exactly `n` bytes. -/
def byteVector (n : Nat) (tokens : List (List Char)) : Option (Vector Byte n) :=
  (listBytes tokens).bind fun l => if h : l.toArray.size = n then some ⟨l.toArray, h⟩ else none

/-- A line up to its comment, which a semicolon and a space begin (R82). -/
def beforeComment : List Char → List Char
  | [] => []
  | c :: rest => if c = ';' ∧ rest.head? = some ' ' then [] else c :: beforeComment rest

/-- The words of a line; a comma is a word of its own. `cur` holds the characters of the word begun, last one first. -/
def wordsFrom (cur : List Char) : List Char → List (List Char)
  | [] => if cur.isEmpty then [] else [cur.reverse]
  | c :: rest =>
    if c = ' ' ∨ c = '\t' ∨ c = '\r' then (if cur.isEmpty then [] else [cur.reverse]) ++ wordsFrom [] rest
    else if c = ',' then (if cur.isEmpty then [] else [cur.reverse]) ++ [','] :: wordsFrom [] rest
    else wordsFrom (c :: cur) rest

/-- The lines of one word alone: three events and the pseudo-instructions (R82, R83). -/
def loneWords : List (List Char × Line) :=
  [("TXDONE".toList, .txDone), ("RXSTART".toList, .rxStart), ("RESET".toList, .reset), ("NOP".toList, lineNop),
   ("ENCODE".toList, lineEncode), ("DECODE".toList, lineDecode), ("STX".toList, lineStx), ("STXR".toList, lineStxr),
   ("ACKD".toList, lineAckd), ("RXACK".toList, lineRxack)]

/-- The lines a line's words stand for, its time apart: one event, or what a pseudo-instruction expands to (R82, R83);
none where they are not in the notation. -/
def linesOfWords (words : List (List Char)) : Option (List Line) :=
  match words with
  | [] => some []
  | [w] => ((loneWords.find? fun e => e.1 = w).map (·.2)).map ([·])
  | w :: args =>
    if w = "WR".toList then
      match args with
      | [a, [','], v] =>
        (numberOfWidth 6 a).bind fun a => (numberOfWidth 8 v).map fun v => [.wr a v]
      | _ => none
    else if w = "RD".toList then
      match args with
      | [a] => (numberOfWidth 6 a).map fun a => [.rd a none]
      | [a, ['-', '>'], v] =>
        (numberOfWidth 6 a).bind fun a => (numberOfWidth 8 v).map fun v => [.rd a (some v)]
      | _ => none
    else if w = "TICK".toList then
      match args with
      | [['0']] => some [.tick false]
      | [['1']] => some [.tick true]
      | _ => none
    else if w = "RXDONE".toList then
      match args with
      | n :: [','] :: bytes =>
        (numberOfWidth 8 n).bind fun n => (byteVector 16 bytes).map fun D => [.rxDone n D]
      | _ => none
    else if w = "LDFB".toList then (byteVector 16 args).map lineLdfb
    else if w = "LDFB14".toList then (byteVector 14 args).map lineLdfb14
    else none

/-- A time goes to the first of the lines; those after it keep that NOW (R82). -/
def withTime (time : Option Word) : List Line → List TimedLine
  | [] => []
  | l :: rest => ⟨time, l⟩ :: rest.map (⟨none, ·⟩)

/-- One line of text (R82): an optional `@t`, an event or a pseudo-instruction, an optional comment. -/
def parseLine (text : List Char) : Option (List TimedLine) :=
  match wordsFrom [] (beforeComment text) with
  | ('@' :: t) :: words =>
    (numberOfWidth 32 t).bind fun t => (linesOfWords words).bind fun l =>
      if l.isEmpty then none else some (withTime (some t) l)
  | words => (linesOfWords words).map (withTime none)

/-- The text's lines. `cur` holds the characters of the line begun, last one first. -/
def textLinesFrom (cur : List Char) : List Char → List (List Char)
  | [] => [cur.reverse]
  | c :: rest => if c = '\n' then cur.reverse :: textLinesFrom [] rest else textLinesFrom (c :: cur) rest

/-- The lines of a program, read from its text lines; the number of the first one that is not in the notation. -/
def parseLinesFrom (number : Nat) : List (List Char) → Except Nat (List TimedLine)
  | [] => .ok []
  | text :: rest =>
    match parseLine text with
    | none => .error number
    | some l =>
      match parseLinesFrom (number + 1) rest with
      | .ok more => .ok (l ++ more)
      | .error n => .error n

/-- A program as text (R82). -/
def parseProgram (text : String) : Except Nat (List TimedLine) := parseLinesFrom 1 (textLinesFrom [] text.toList)

end Sys2Proof.Machine
end

