-- ==== Sys2Proof/Safety.lean ====
section
/-! DEFINITION. The terms that claims about the block are stated in: its invariants (10_state.md R42), what a run sends
and how long a slot stays occupied (42_transport_events.md R171 to R174), the causes of a completion (60_exceptions.md
R203), and what of the state the block never interprets. -/

namespace Sys2Proof.Machine

/-! ### Safe runs -/

/-- `k` steps of the machine, stopping at the first refusal; the host's run of its core is the same function
(`run_eq_core`). -/
def run : Nat → State → Host.Outcome State Fault Refusal
  | 0, s => .next s
  | k + 1, s =>
    match step s with
    | .next t => run k t
    | .fault r => .fault r
    | .refused r => .refused r

/-- A safe run meets no refusal: every event pending is spelled by a well-formed word (R76). -/
def wordsSpellEvents (s : State) : Prop := ∀ e ∈ s.inbox, ∃ i, decode e.word = .ok i

/-- The field of the word breaks R76, said field by field from the tables of R74 and R75. -/
def fieldBreaksR76 (w : Word) : EventField → Prop
  | .kind => 6 < (w.extractLsb' 28 4).toNat
  | .addr => w.extractLsb' 28 4 ≠ 1#4 ∧ w.extractLsb' 28 4 ≠ 2#4 ∧ w.extractLsb' 22 6 ≠ 0#6
  | .data => w.extractLsb' 28 4 ≠ 1#4 ∧ w.extractLsb' 14 8 ≠ 0#8
  | .cd => w.extractLsb' 28 4 ≠ 0#4 ∧ w.getLsbD 13 = true
  | .reserved => w.extractLsb' 8 5 ≠ 0#5
  | .len => w.extractLsb' 28 4 ≠ 5#4 ∧ w.extractLsb' 0 8 ≠ 0#8

/-- A host write to CMD: the commands of R132. -/
def isCommand : Instr → Bool
  | .nop | .encode | .decode | .startTx | .startTxReply | .ackDone | .rxAck | .cmdReserved _ => true
  | .tick _ | .regWrite _ _ | .regRead _ | .txDone | .rxStart | .rxDone _ | .reset => false

/-! ### Invariants (R42) -/

/-- The invariants of R42. -/
structure Inv (b : Block) : Prop where
  /-- STATE ∈ 0, 1, 2, 3, 4 -/
  state_code : (stateCode b.state).toNat ≤ 4
  /-- STATE = Idle ⇒ REPLY_REQ = 0 ∧ RETRIES_LEFT = 0 ∧ REPEATS_LEFT = 0 -/
  idle_slot : b.state = .idle → b.replyReq = false ∧ b.retriesLeft = 0#8 ∧ b.repeatsLeft = 0#8
  /-- STATE ∈ RxWait, RxBusy ⇒ REPLY_REQ = 1 ∧ REPEATS_LEFT = 0 -/
  reply_wait : b.state = .rxWait ∨ b.state = .rxBusy → b.replyReq = true ∧ b.repeatsLeft = 0#8
  /-- STATE = TxBusy ⇒ REPEATS_LEFT ≤ TX_REPEAT − 1 -/
  repeats_bound : b.state = .txBusy → b.repeatsLeft.toNat + 1 ≤ Config.cfg.txRepeat.toNat
  /-- REPLY_REQ = 0 ⇒ RETRIES_LEFT = 0 -/
  retries_need_reply : b.replyReq = false → b.retriesLeft = 0#8
  /-- RX_OVF = 1 ⇒ RXV = 1 -/
  overflow_valid : b.rxOvf = true → b.rxv = true
  /-- COMP_RESULT ∈ 0, 2 -/
  result_code : b.compResult = .success ∨ b.compResult = .failure
  /-- COMP_REPLY = 1 ⇒ COMP_RESULT = 0 -/
  reply_success : b.compReply = true → b.compResult = .success

/-! ### What a run sends -/

/-- 1 where the latest step sent a frame, else 0. -/
def sendCount (s : State) : Nat := if s.sent.isSome then 1 else 0

/-- The frames sent in up to `k` steps, until the slot is free. -/
def sendsUntilIdle : Nat → State → Nat
  | 0, _ => 0
  | k + 1, s =>
    if s.block.state = .idle then 0
    else match step s with
      | .next t => sendCount t + sendsUntilIdle k t
      | .fault _ => 0
      | .refused _ => 0

/-- The attempts begun (WaitAirwayFree left for TxBusy, R162) in up to `k` steps, until the slot is free. -/
def attemptsUntilIdle : Nat → State → Nat
  | 0, _ => 0
  | k + 1, s =>
    if s.block.state = .idle then 0
    else match step s with
      | .next t =>
        (if s.block.state = .waitAirwayFree ∧ t.block.state = .txBusy then 1 else 0) + attemptsUntilIdle k t
      | .fault _ => 0
      | .refused _ => 0

/-- The frames sent from a state on until STATE is no longer TxBusy; none where it still is after `k` steps. -/
def sendsUntilSent : Nat → State → Option Nat
  | 0, _ => none
  | k + 1, s =>
    if s.block.state = .txBusy then
      match step s with
      | .next t => (sendsUntilSent k t).map (sendCount t + ·)
      | .fault _ => none
      | .refused _ => none
    else some 0

/-! ### Progress (R174) -/

/-- The next event is one that R174 asks the environment for: a clear channel or a passed airway deadline in
WaitAirwayFree, a TX_DONE in TxBusy, a passed reply timeout in RxWait or RxBusy. -/
def due (s : State) : Bool :=
  match s.inbox with
  | [] => false
  | e :: _ =>
    match s.block.state, decode e.word with
    | .waitAirwayFree, .ok (.tick cd) => !cd || Config.cfg.airwayTimeoutMs < e.now - s.block.airTs
    | .txBusy, .ok .txDone => true
    | .rxWait, .ok (.tick _) => Config.cfg.replyTimeoutMs < e.now - s.block.sendTs
    | .rxBusy, .ok (.tick _) => Config.cfg.replyTimeoutMs < e.now - s.block.sendTs
    | _, _ => false

/-- The due events in up to `k` steps, until the slot is free. -/
def dueUntilIdle : Nat → State → Nat
  | 0, _ => 0
  | k + 1, s =>
    if s.block.state = .idle then 0
    else match step s with
      | .next t => (if due s then 1 else 0) + dueUntilIdle k t
      | .fault _ => 0
      | .refused _ => 0

/-- The slot is free now or after one of the next `k` steps. -/
def freedWithin : Nat → State → Bool
  | 0, s => s.block.state = .idle
  | k + 1, s =>
    s.block.state = .idle ||
      match step s with
      | .next t => freedWithin k t
      | .fault _ => false
      | .refused _ => false

/-- How many due events an occupied slot can still take: each attempt to come takes at most `TX_REPEAT + 2`. -/
def rank (b : Block) : Nat :=
  let perAttempt := Config.cfg.txRepeat.toNat + 2
  match b.state with
  | .idle => 0
  | .waitAirwayFree => (b.retriesLeft.toNat + 1) * perAttempt
  | .txBusy => b.retriesLeft.toNat * perAttempt + b.repeatsLeft.toNat + 2
  | .rxWait | .rxBusy => b.retriesLeft.toNat * perAttempt + 1

/-! ### The transition table and the causes of a completion -/

/-- A frame passes the receive checks, said from R110, R111 and R112. -/
def frameAccepted (b : Block) (rxLen : Byte) (D : Frame) : Prop :=
  rxLen = 16#8 ∧ Config.cfg.checksum (header D) = D[14] ++ D[15] ∧
    (D[0] = Config.cfg.broadcastType ∨ (D[0] = b.myType ∧ D[1] = b.myId))

/-- What `complete(r, rep)` leaves: the completion record, a free slot, and the fields that keep their values (R170). -/
def completed (s t : State) (r : Result) (rep : Bool) : Prop :=
  t.block.done = true ∧ t.block.compResult = r ∧ t.block.compReply = rep ∧ t.block.compTag = s.block.tag ∧
    t.block.state = .idle ∧ t.block.replyReq = false ∧ t.block.retriesLeft = 0#8 ∧ t.block.repeatsLeft = 0#8 ∧
    t.block.txFrame = s.block.txFrame ∧ t.block.tag = s.block.tag ∧ t.block.sendTs = s.block.sendTs ∧
    t.block.airTs = s.block.airTs

/-- What filling the slot leaves, with or without a reply requested: every field of the slot, and WaitAirwayFree (R134,
R135). SEND_TS is loaded only at the reply wait. -/
def slotLoaded (s t : State) (reply : Bool) (retries : Byte) : Prop :=
  t.block.state = .waitAirwayFree ∧ t.block.txFrame = s.block.fb ∧ t.block.tag = s.block.txTag ∧
    t.block.replyReq = reply ∧ t.block.retriesLeft = retries ∧ t.block.repeatsLeft = 0#8 ∧ t.block.airTs = s.now ∧
    t.block.sendTs = s.block.sendTs

/-- The rows of R171: the (STATE, event) pairs that change STATE or send, with their effect. -/
inductive TransitionRow (s t : State) : Instr → Prop where
  | startTx : s.block.state = .idle → slotLoaded s t false 0#8 → t.block.cmdResult = .success → t.sent = none →
      TransitionRow s t .startTx
  | startTxReply : s.block.state = .idle → slotLoaded s t true s.block.replyRetries → t.block.cmdResult = .success →
      t.sent = none → TransitionRow s t .startTxReply
  | clearChannel : s.block.state = .waitAirwayFree → t.block.state = .txBusy → t.sent = some s.block.txFrame →
      t.block.repeatsLeft = Config.cfg.txRepeat - 1#8 → TransitionRow s t (.tick false)
  | airwayDeadline : s.block.state = .waitAirwayFree → Config.cfg.airwayTimeoutMs < s.now - s.block.airTs →
      completed s t .failure false → t.sent = none → TransitionRow s t (.tick true)
  | nextRepeat : s.block.state = .txBusy → 0#8 < s.block.repeatsLeft → t.block.state = .txBusy →
      t.sent = some s.block.txFrame → t.block.repeatsLeft = s.block.repeatsLeft - 1#8 → TransitionRow s t .txDone
  | replyWait : s.block.state = .txBusy → s.block.repeatsLeft = 0#8 → s.block.replyReq = true →
      t.block.state = .rxWait → t.block.sendTs = s.now → t.sent = none → TransitionRow s t .txDone
  | sentWithoutReply : s.block.state = .txBusy → s.block.repeatsLeft = 0#8 → s.block.replyReq = false →
      completed s t .success false → t.sent = none → TransitionRow s t .txDone
  | receptionBegins : s.block.state = .rxWait → t.block.state = .rxBusy → t.sent = none → TransitionRow s t .rxStart
  | reply (len : Byte) : s.block.state = .rxWait ∨ s.block.state = .rxBusy → frameAccepted s.block len s.rxData →
      t.block.rxBuf = s.rxData → t.block.rxv = true → completed s t .success true → t.sent = none →
      TransitionRow s t (.rxDone len)
  | retry (cd : Bool) : s.block.state = .rxWait ∨ s.block.state = .rxBusy →
      Config.cfg.replyTimeoutMs < s.now - s.block.sendTs → 0#8 < s.block.retriesLeft →
      t.block.state = .waitAirwayFree → t.block.retriesLeft = s.block.retriesLeft - 1#8 → t.block.airTs = s.now →
      t.sent = none → TransitionRow s t (.tick cd)
  | retriesExhausted (cd : Bool) : s.block.state = .rxWait ∨ s.block.state = .rxBusy →
      Config.cfg.replyTimeoutMs < s.now - s.block.sendTs → s.block.retriesLeft = 0#8 →
      completed s t .failure false → t.sent = none → TransitionRow s t (.tick cd)
  | reset : t.block = Block.reset → t.sent = none → TransitionRow s t .reset

/-- The completion record differs, or DONE rises. -/
def recordChanged (s t : State) : Prop :=
  (s.block.done = false ∧ t.block.done = true) ∨ t.block.compResult ≠ s.block.compResult ∨
    t.block.compReply ≠ s.block.compReply ∨ t.block.compTag ≠ s.block.compTag

/-- The four causes of a completion (R203). -/
inductive CompletionCause (s t : State) : Instr → Prop where
  | allRepeatsDone : s.block.state = .txBusy → s.block.repeatsLeft = 0#8 → s.block.replyReq = false →
      completed s t .success false → CompletionCause s t .txDone
  | replyAccepted (len : Byte) : s.block.state = .rxWait ∨ s.block.state = .rxBusy →
      frameAccepted s.block len s.rxData → completed s t .success true → CompletionCause s t (.rxDone len)
  | retriesExhausted (cd : Bool) : s.block.state = .rxWait ∨ s.block.state = .rxBusy →
      Config.cfg.replyTimeoutMs < s.now - s.block.sendTs → s.block.retriesLeft = 0#8 →
      completed s t .failure false → CompletionCause s t (.tick cd)
  | airwayDeadline : s.block.state = .waitAirwayFree → Config.cfg.airwayTimeoutMs < s.now - s.block.airTs →
      completed s t .failure false → CompletionCause s t (.tick true)

/-! ### What the block never interprets -/

/-- The state with the continuation tags, and what a host read of one would show, out of sight (R26). -/
def hideTags (s : State) : State :=
  { s with block := { s.block with txTag := 0#8, tag := 0#8, compTag := 0#8 }, readData := none }

/-- Two outcomes look the same but for the tags. -/
def sameButTags : Host.Outcome State Fault Refusal → Host.Outcome State Fault Refusal → Prop
  | .next t, .next t' => hideTags t = hideTags t'
  | .refused r, .refused r' => r = r'
  | .next _, .fault _ | .next _, .refused _ | .fault _, .next _ | .fault _, .fault _ | .fault _, .refused _
  | .refused _, .next _ | .refused _, .fault _ => False

/-! ### Same-cycle order (R206) -/

/-- The place of an event's source in the fixed order of R206. -/
def sourcePlace : Instr → Nat
  | .reset => 1
  | .rxDone _ => 2
  | .txDone => 3
  | .rxStart => 4
  | .regWrite _ _ | .cmdReserved _ | .nop | .encode | .decode | .startTx | .startTxReply | .ackDone | .rxAck
  | .regRead _ => 5
  | .tick _ => 6

end Sys2Proof.Machine
end

