-- ==== Sys2Proof/Certificates/Slice0/Obligations.lean ====
section
/-! DEFINITION. The statements for the provers, from the spec's numbered rules. `exec` is the machine's own, with the
elaborated configuration `Config.cfg`, of which only legality is known (00_scope.md R7, R8). A meaning's next state is
written out as an update of the state before it: what the update does not name is unchanged. -/

open Sys2Proof Sys2Proof.Machine

/-! ### Event words -/

/-- Words written out in 30_encoding.md R84 and in the command rules decode to the events they stand for. -/
def Obligations.KnownWordsDecode : Prop :=
  decode 0x1240C000#32 = .ok (.regWrite 0x09#6 0x03#8) ∧ decode 0x1000C000#32 = .ok .startTx ∧
  decode 0x00002000#32 = .ok (.tick true) ∧ decode 0x50000010#32 = .ok (.rxDone 16#8) ∧
  decode 0x10004000#32 = .ok .encode ∧ decode 0x30000000#32 = .ok .txDone ∧
  decode 0x60000000#32 = .ok .reset ∧ decode 0x27800000#32 = .ok (.regRead 0x1E#6) ∧
  decode 0x1001C000#32 = .ok (.cmdReserved 0x07#8)

/-- Every well-formed instruction, with every operand value its word admits, is read back from its word. -/
def Obligations.DecodeEncode : Prop :=
  ∀ i : Instr, wellFormed i = true → decode (encode i) = .ok i

/-- A word that decodes is the word of the instruction it decodes to, and that instruction is well-formed: each event
has one word. -/
def Obligations.EncodeDecode : Prop :=
  ∀ (w : Word) (i : Instr), decode w = .ok i → wellFormed i = true ∧ encode i = w

/-- R76: a word spells an event exactly when no field breaks the rule, and a step refuses any other word and names its
KIND. That the refusal lists every field that breaks the rule, where R76 says "the offending field", nonzero fields at a
reserved KIND among them, is the model's choice (log entry 8). -/
def Obligations.MalformedWordsRefused : Prop :=
  (∀ w : Word, (∃ i, decode w = .ok i) ↔ ∀ f, ¬ fieldBreaksR76 w f) ∧
  (∀ (s : State) (e : Event) (rest : List Event) (f : EventField), s.inbox = e :: rest → fieldBreaksR76 e.word f →
    ∃ fields, step s = .refused (.malformedEvent (e.word.extractLsb' 28 4) fields) ∧
      ∀ g, g ∈ fields ↔ fieldBreaksR76 e.word g)

/-- R79: the row of the opcode table that names the decoded event matches its word, and every other matching row has
fewer mask bits; a word that some row matches decodes; two rows of one mask weight match no common word. At KIND 1 the
address selects between commands and register writes, and the code selects the command row. -/
def Obligations.TableRowSelected : Prop :=
  (∀ (w : Word) (i : Instr), decode w = .ok i →
    ∃ r ∈ opcodeTable, r.mnemonic = mnemonic i ∧ rowMatches r w = true ∧
      ∀ r' ∈ opcodeTable, rowMatches r' w = true → r' = r ∨ maskWeight r'.mask < maskWeight r.mask) ∧
  (∀ (w : Word) (r : TableRow), r ∈ opcodeTable → rowMatches r w = true → ∃ i, decode w = .ok i) ∧
  (∀ (w : Word) (r r' : TableRow), r ∈ opcodeTable → r' ∈ opcodeTable → rowMatches r w = true →
    rowMatches r' w = true → maskWeight r.mask = maskWeight r'.mask → r = r') ∧
  (∀ (a : BitVec 6) (v : Byte), a ≠ 0#6 → decode (0x10000000#32 ||| a.setWidth 32 <<< 22 ||| v.setWidth 32 <<< 14) = .ok (.regWrite a v)) ∧
  (∀ c : Byte, 7 ≤ c.toNat → decode (0x10000000#32 ||| c.setWidth 32 <<< 14) = .ok (.cmdReserved c))

/-! ### Steps and runs -/

/-- The oldest pending event is taken, its operands NOW and RXDATA are sampled, and the event its word spells is run. -/
def Obligations.StepRunsDecodedEvent : Prop :=
  ∀ (s : State) (e : Event) (rest : List Event) (i : Instr), s.inbox = e :: rest → decode e.word = .ok i →
    step s = exec i { s with inbox := rest, now := e.now, rxData := e.rxData }

/-- With no event pending nothing changes and nothing is put out: the model's reading of R22 (log entry 6). -/
def Obligations.NoEventNoChange : Prop :=
  ∀ s : State, s.inbox = [] → step s = .next { s with sent := none, readData := none }

/-- R200: every event of every instruction runs to a next state, whatever the state; it consumes nothing of what is
pending behind it. -/
def Obligations.EveryEventCompletes : Prop :=
  ∀ (i : Instr) (s : State), ∃ t, exec i s = .next t ∧ t.inbox = s.inbox ∧ t.now = s.now ∧ t.rxData = s.rxData

/-- A run over words that spell events never stops (R200, R160). Two clauses are the model's choice: the events still to
come are a list of which a run of `k` steps takes the first `k` (log entry 3), and past its end a step with no event is
a next state (log entry 6). -/
def Obligations.WellFormedRunNeverStops : Prop :=
  ∀ (k : Nat) (s : State), wordsSpellEvents s → ∃ t, run k s = .next t ∧ t.inbox = s.inbox.drop k

/-- R82 and R84: each line form spells the event that R82 lists beside it, and a program's line i becomes the i-th event:
its word is that of the line's event, its NOW the line's time, or where the line gives none that of the event before it,
0 for the first; its RXDATA that of an RXDONE line. -/
def Obligations.ProgramAssembles : Prop :=
  (∀ (a : BitVec 6) (v : Byte),
    encode (lineInstr (.wr a v)) = 0x10000000#32 ||| a.setWidth 32 <<< 22 ||| v.setWidth 32 <<< 14 ∧
    (a ≠ 0#6 → lineInstr (.wr a v) = .regWrite a v) ∧ (a = 0#6 → isCommand (lineInstr (.wr a v)) = true)) ∧
  (∀ (a : BitVec 6) (x : Option Byte), lineInstr (.rd a x) = .regRead a) ∧
  (∀ cd : Bool, lineInstr (.tick cd) = .tick cd) ∧ lineInstr .txDone = .txDone ∧ lineInstr .rxStart = .rxStart ∧
  (∀ (n : Byte) (D : Frame), lineInstr (.rxDone n D) = .rxDone n) ∧ lineInstr .reset = .reset ∧
  ∀ p : List TimedLine, (assemble p).length = p.length ∧
    ∀ (i : Nat) (l : TimedLine), p[i]? = some l → ∃ e, (assemble p)[i]? = some e ∧
      decode e.word = .ok (lineInstr l.line) ∧ encode (lineInstr l.line) = e.word ∧
      (∀ t, l.time = some t → e.now = t) ∧
      (l.time = none → (i = 0 → e.now = 0#32) ∧ ∀ d, i ≠ 0 → (assemble p)[i - 1]? = some d → e.now = d.now) ∧
      ∀ n D, l.line = .rxDone n D → e.rxData = D

/-! ### Reset -/

/-- R231: the reset value of every field, the interrupt output after reset, and the reset frame buffer's checksum under
the default algorithm. A block of another `REPLY_RETRIES_RESET` differs in REPLY_RETRIES only (R7, R37). -/
def Obligations.ResetValues : Prop :=
  State.reset.block =
    { state := .idle, replyReq := false, txFrame := Vector.replicate 16 0x00#8, tag := 0x00#8, retriesLeft := 0#8
      repeatsLeft := 0#8, sendTs := 0#32, airTs := 0#32, done := false, compResult := .success, compReply := false
      compTag := 0x00#8, rxBuf := Vector.replicate 16 0x00#8, rxv := false, rxOvf := false, cmdResult := .success
      decStatus := .ok, fb := Vector.replicate 16 0x00#8, flen := 0x10#8, txTag := 0x00#8, replyRetries := 0x0A#8
      myType := 0x00#8, myId := 0x00#8, doneIe := false, rxvIe := false } ∧
  (∀ cfg : Cfg, Block.resetOf cfg = { State.reset.block with replyRetries := cfg.replyRetriesReset }) ∧
  irq State.reset.block = false ∧
  defaultChecksum (Vector.replicate 14 0x00#8) = 0xA96A#16

/-- R230: RESET returns the block to its reset state from any state, and sends nothing; in the cycle it comes in it is
the only event. -/
def Obligations.ResetResult : Prop :=
  decode 0x60000000#32 = .ok .reset ∧
  (∀ c : Cycle, c.reset = true → (arbitrate c).map (·.word) = [0x60000000#32]) ∧
  ∀ s : State, exec .reset s = .next { s with block := State.reset.block, sent := none, readData := none }

/-- R232: a transmission in flight at RESET gets no completion, and the radio's later TX_DONE changes nothing. -/
def Obligations.ResetAbandonsTransmission : Prop :=
  ∀ s : State, ∃ t u, exec .reset s = .next t ∧ t.block.done = false ∧
    exec .txDone t = .next u ∧ u.block = t.block ∧ u.sent = none

/-! ### The frame codec -/

/-- R104: ENCODE writes the checksum of FB[0..13] to FB[14..15], high byte first, and nothing else but CMD_RESULT; a
second ENCODE gives the same FB. -/
def Obligations.EncodeResult : Prop :=
  decode 0x10004000#32 = .ok .encode ∧
  ∀ (s : State) (c : BitVec 16), c = Config.cfg.checksum (Vector.ofFn fun i : Fin 14 => s.block.fb[i.val]) →
    exec .encode s = .next
      { s with
        block := { s.block with
          fb := (s.block.fb.set 14 (c.extractLsb' 8 8)).set 15 (c.extractLsb' 0 8), cmdResult := .success }
        sent := none, readData := none } ∧
    ∀ t, exec .encode s = .next t →
      exec .encode t = .next { t with block := { t.block with cmdResult := .success }, sent := none, readData := none }

/-- R105 and R106: DECODE looks at FLEN, then at the trailer; it writes DEC_STATUS and CMD_RESULT only. -/
def Obligations.DecodeResult : Prop :=
  decode 0x10008000#32 = .ok .decode ∧
  ∀ (s : State) (c : BitVec 16), c = Config.cfg.checksum (Vector.ofFn fun i : Fin 14 => s.block.fb[i.val]) →
    (s.block.flen ≠ 16#8 → exec .decode s = .next
      { s with block := { s.block with decStatus := .invalidLength, cmdResult := .failure }
               sent := none, readData := none }) ∧
    (s.block.flen = 16#8 → c ≠ s.block.fb[14] ++ s.block.fb[15] → exec .decode s = .next
      { s with block := { s.block with decStatus := .invalidChecksum, cmdResult := .failure }
               sent := none, readData := none }) ∧
    (s.block.flen = 16#8 → c = s.block.fb[14] ++ s.block.fb[15] → exec .decode s = .next
      { s with block := { s.block with decStatus := .ok, cmdResult := .success }
               sent := none, readData := none })

/-- R108: ENCODE then DECODE, with FLEN = 16, ends in OK, and FB[0..13] still holds the bytes written. -/
def Obligations.CodecRoundTrip : Prop :=
  ∀ s : State, s.block.flen = 16#8 → ∃ t u, exec .encode s = .next t ∧ exec .decode t = .next u ∧
    u.block.decStatus = .ok ∧ u.block.cmdResult = .success ∧
    ∀ (i : Nat) (h : i < 14), u.block.fb[i] = s.block.fb[i]

/-- R109: after ENCODE, a host write that inverts any one bit of FB, trailer included, makes DECODE report
INVALID_CHECKSUM. -/
def Obligations.ChecksumSensitivity : Prop :=
  ∀ (s : State) (i : Fin 16) (k : Fin 8), s.block.flen = 16#8 → ∃ t u v, exec .encode s = .next t ∧
    exec (.regWrite (0x10#6 + BitVec.ofNat 6 i.val) (t.block.fb[i] ^^^ BitVec.twoPow 8 k)) t = .next u ∧
    exec .decode u = .next v ∧ v.block.decStatus = .invalidChecksum ∧ v.block.cmdResult = .failure

/-- The default checksum of R101 has the property that R103 requires of every CHECKSUM. -/
def Obligations.DefaultChecksumDetectsSingleBit : Prop :=
  ∀ (B : Header) (i : Fin 14) (k : Fin 8),
    defaultChecksum (B.set i (B[i] ^^^ BitVec.twoPow 8 k)) ≠ defaultChecksum B

/-! ### The host's registers -/

/-- R130: what a register write does at every address other than CMD. -/
def Obligations.RegisterWriteResult : Prop :=
  (∀ (a : BitVec 6) (v : Byte), a ≠ 0#6 → decode (0x10000000#32 ||| a.setWidth 32 <<< 22 ||| v.setWidth 32 <<< 14) = .ok (.regWrite a v)) ∧
  ∀ (s : State) (v : Byte),
    exec (.regWrite 0x06#6 v) s = .next
      { s with block := { s.block with doneIe := v.getLsbD 0, rxvIe := v.getLsbD 1 }, sent := none, readData := none } ∧
    exec (.regWrite 0x07#6 v) s = .next
      { s with block := { s.block with txTag := v }, sent := none, readData := none } ∧
    exec (.regWrite 0x08#6 v) s = .next
      { s with block := { s.block with replyRetries := v }, sent := none, readData := none } ∧
    exec (.regWrite 0x09#6 v) s = .next
      { s with block := { s.block with myType := v }, sent := none, readData := none } ∧
    exec (.regWrite 0x0A#6 v) s = .next
      { s with block := { s.block with myId := v }, sent := none, readData := none } ∧
    exec (.regWrite 0x0B#6 v) s = .next
      { s with block := { s.block with flen := v }, sent := none, readData := none } ∧
    (∀ i : Fin 16, exec (.regWrite (0x10#6 + BitVec.ofNat 6 i.val) v) s = .next
      { s with block := { s.block with fb := s.block.fb.set i v }, sent := none, readData := none }) ∧
    (∀ a : BitVec 6, (1 ≤ a.toNat ∧ a.toNat ≤ 5) ∨ (0x0C ≤ a.toNat ∧ a.toNat ≤ 0x0F) ∨ 0x20 ≤ a.toNat →
      exec (.regWrite a v) s = .next { s with sent := none, readData := none })

/-- What a later host read of any address sees of a register write: the written register its new value (two bits of it
at IRQ_EN), a read-only or reserved one its old value, and every other address its old value. -/
def Obligations.RegisterWriteReadBack : Prop :=
  ∀ (s : State) (a : BitVec 6) (v : Byte), a ≠ 0#6 → ∃ t, exec (.regWrite a v) s = .next t ∧
    (a = 0x06#6 → readReg t.block a = v &&& 0x03#8) ∧
    ((0x07 ≤ a.toNat ∧ a.toNat ≤ 0x0B) ∨ (0x10 ≤ a.toNat ∧ a.toNat ≤ 0x1F) → readReg t.block a = v) ∧
    (a.toNat ≤ 5 ∨ (0x0C ≤ a.toNat ∧ a.toNat ≤ 0x0F) ∨ 0x20 ≤ a.toNat →
      readReg t.block a = readReg s.block a) ∧
    ∀ c : BitVec 6, c ≠ a → readReg t.block c = readReg s.block c

/-- R55: the value of every address of the host window, in the state at the start of the read, with the numeric codes of
STATE (R23), of the results (R201) and of DEC_STATUS (R202) that the views show. -/
def Obligations.RegisterMap : Prop :=
  (stateCode .idle = 0#3 ∧ stateCode .waitAirwayFree = 1#3 ∧ stateCode .txBusy = 2#3 ∧ stateCode .rxWait = 3#3 ∧
    stateCode .rxBusy = 4#3) ∧
  (resultCode .success = 0#2 ∧ resultCode .busy = 1#2 ∧ resultCode .failure = 2#2 ∧ resultCode .illegal = 3#2) ∧
  (decStatusCode .ok = 0#2 ∧ decStatusCode .invalidLength = 1#2 ∧ decStatusCode .invalidChecksum = 2#2) ∧
  (∀ (s : State) (a : BitVec 6), ∃ t, exec (.regRead a) s = .next t ∧ t.readData = some (readReg s.block a)) ∧
  ∀ b : Block,
    readReg b 0x00#6 = 0x00#8 ∧
    readReg b 0x01#6 = (BitVec.ofBool b.replyReq ++ stateCode b.state).setWidth 8 ∧
    readReg b 0x02#6 = (decStatusCode b.decStatus ++ resultCode b.cmdResult).setWidth 8 ∧
    readReg b 0x03#6 = (BitVec.ofBool b.compReply ++ resultCode b.compResult ++ BitVec.ofBool b.done).setWidth 8 ∧
    readReg b 0x04#6 = b.compTag ∧
    readReg b 0x05#6 = (BitVec.ofBool b.rxOvf ++ BitVec.ofBool b.rxv).setWidth 8 ∧
    readReg b 0x06#6 = (BitVec.ofBool b.rxvIe ++ BitVec.ofBool b.doneIe).setWidth 8 ∧
    readReg b 0x07#6 = b.txTag ∧ readReg b 0x08#6 = b.replyRetries ∧ readReg b 0x09#6 = b.myType ∧
    readReg b 0x0A#6 = b.myId ∧ readReg b 0x0B#6 = b.flen ∧ readReg b 0x0C#6 = b.retriesLeft ∧
    readReg b 0x0D#6 = b.repeatsLeft ∧ readReg b 0x0E#6 = 0x00#8 ∧ readReg b 0x0F#6 = 0x00#8 ∧
    ∀ i : Fin 16,
      readReg b (0x10#6 + BitVec.ofNat 6 i.val) = b.fb[i] ∧
      readReg b (0x20#6 + BitVec.ofNat 6 i.val) = b.rxBuf[i] ∧
      readReg b (0x30#6 + BitVec.ofNat 6 i.val) = b.txFrame[i]

/-- R131, R56: a host read puts out the value of the address and changes nothing of the block. -/
def Obligations.RegisterReadResult : Prop :=
  (∀ a : BitVec 6, decode (0x20000000#32 ||| a.setWidth 32 <<< 22) = .ok (.regRead a)) ∧
  ∀ (s : State) (a : BitVec 6),
    exec (.regRead a) s = .next { s with sent := none, readData := some (readReg s.block a) } ∧
    (a = 0x00#6 ∨ a = 0x0E#6 ∨ a = 0x0F#6 → readReg s.block a = 0x00#8)

/-! ### Commands -/

/-- R132: a write to CMD runs the command of its code; the commands, and RESET, are all that changes CMD_RESULT, and
after a command it holds the code that R201 gives it. -/
def Obligations.CommandDispatch : Prop :=
  (∀ c : Byte, ∃ i, decode (0x10000000#32 ||| c.setWidth 32 <<< 14) = .ok i ∧ isCommand i = true ∧
    i = if c = 0#8 then .nop else if c = 1#8 then .encode else if c = 2#8 then .decode else if c = 3#8 then .startTx
      else if c = 4#8 then .startTxReply else if c = 5#8 then .ackDone else if c = 6#8 then .rxAck
      else .cmdReserved c) ∧
  (∀ (i : Instr) (s t : State), exec i s = .next t → isCommand i = false → i ≠ .reset →
    t.block.cmdResult = s.block.cmdResult) ∧
  (∀ (i : Instr) (s t : State), exec i s = .next t → isCommand i = true →
    (t.block.cmdResult = .busy ↔ (i = .startTx ∨ i = .startTxReply) ∧ s.block.state ≠ .idle) ∧
    (t.block.cmdResult = .failure ↔ i = .decode ∧ t.block.decStatus ≠ .ok) ∧
    (t.block.cmdResult = .illegal ↔ ∃ c, i = .cmdReserved c) ∧ readReg t.block 0x00#6 = 0x00#8)

/-- R133: NOP only makes CMD_RESULT SUCCESS. -/
def Obligations.NopResult : Prop :=
  decode 0x10000000#32 = .ok .nop ∧
  ∀ s : State, exec .nop s = .next
    { s with block := { s.block with cmdResult := .success }, sent := none, readData := none }

/-- R134: START_TX. -/
def Obligations.StartTxResult : Prop :=
  decode 0x1000C000#32 = .ok .startTx ∧
  ∀ s : State,
    (s.block.state ≠ .idle → exec .startTx s = .next
      { s with block := { s.block with cmdResult := .busy }, sent := none, readData := none }) ∧
    (s.block.state = .idle → exec .startTx s = .next
      { s with
        block := { s.block with
          txFrame := s.block.fb, tag := s.block.txTag, replyReq := false, retriesLeft := 0#8, repeatsLeft := 0#8
          airTs := s.now, state := .waitAirwayFree, cmdResult := .success }
        sent := none, readData := none })

/-- R135: START_TX_REPLY. -/
def Obligations.StartTxReplyResult : Prop :=
  decode 0x10010000#32 = .ok .startTxReply ∧
  ∀ s : State,
    (s.block.state ≠ .idle → exec .startTxReply s = .next
      { s with block := { s.block with cmdResult := .busy }, sent := none, readData := none }) ∧
    (s.block.state = .idle → exec .startTxReply s = .next
      { s with
        block := { s.block with
          txFrame := s.block.fb, tag := s.block.txTag, replyReq := true, retriesLeft := s.block.replyRetries
          repeatsLeft := 0#8, airTs := s.now, state := .waitAirwayFree, cmdResult := .success }
        sent := none, readData := none })

/-- R136: ACK_DONE. -/
def Obligations.AckDoneResult : Prop :=
  decode 0x10014000#32 = .ok .ackDone ∧
  ∀ s : State, exec .ackDone s = .next
    { s with block := { s.block with done := false, cmdResult := .success }, sent := none, readData := none }

/-- R137: RX_ACK. -/
def Obligations.RxAckResult : Prop :=
  decode 0x10018000#32 = .ok .rxAck ∧
  ∀ s : State, exec .rxAck s = .next
    { s with block := { s.block with rxv := false, rxOvf := false, cmdResult := .success }
             sent := none, readData := none }

/-- R138: a reserved command code changes nothing but CMD_RESULT. -/
def Obligations.ReservedCommandResult : Prop :=
  ∀ c : Byte, 0x07#8 ≤ c → decode (0x10000000#32 ||| c.setWidth 32 <<< 14) = .ok (.cmdReserved c) ∧
    ∀ s : State, exec (.cmdReserved c) s = .next
      { s with block := { s.block with cmdResult := .illegal }, sent := none, readData := none }

/-- R139: while a transmission is pending, a start command changes only CMD_RESULT. -/
def Obligations.BusyStartChangesNothing : Prop :=
  ∀ (s : State) (i : Instr), s.block.state ≠ .idle → i = .startTx ∨ i = .startTxReply →
    exec i s = .next { s with block := { s.block with cmdResult := .busy }, sent := none, readData := none }

/-- R140: an occupied slot is freed only by a completion or RESET, and only a start command from Idle fills it. -/
def Obligations.SlotHeldUntilCompletion : Prop :=
  ∀ (i : Instr) (s t : State), exec i s = .next t →
    (s.block.state ≠ .idle → t.block.state = .idle →
      i = .reset ∨ (t.block.done = true ∧ t.block.compTag = s.block.tag)) ∧
    (s.block.state = .idle → t.block.state ≠ .idle →
      (i = .startTx ∨ i = .startTxReply) ∧ t.block.state = .waitAirwayFree ∧ t.block.cmdResult = .success) ∧
    (s.block.state ≠ .idle → t.block.state ≠ .idle →
      t.block.txFrame = s.block.txFrame ∧ t.block.tag = s.block.tag ∧ t.block.replyReq = s.block.replyReq)

/-- R41: who sets and who clears each status flag. -/
def Obligations.FlagWriters : Prop :=
  ∀ (i : Instr) (s t : State), exec i s = .next t →
    (s.block.done = false → t.block.done = true → s.block.state ≠ .idle ∧ t.block.state = .idle) ∧
    (s.block.done = true → t.block.done = false → i = .ackDone ∨ i = .reset) ∧
    (s.block.rxv = false → t.block.rxv = true → ∃ len, i = .rxDone len ∧ t.block.rxBuf = s.rxData) ∧
    (s.block.rxv = true → t.block.rxv = false → i = .rxAck ∨ i = .reset) ∧
    (s.block.rxOvf = false → t.block.rxOvf = true → s.block.rxv = true ∧ ∃ len, i = .rxDone len) ∧
    (s.block.rxOvf = true → t.block.rxOvf = false → i = .rxAck ∨ i = .reset) ∧
    (s.block.replyReq = false → t.block.replyReq = true → i = .startTxReply) ∧
    (s.block.replyReq = true → t.block.replyReq = false →
      i = .startTx ∨ i = .reset ∨ (s.block.state ≠ .idle ∧ t.block.state = .idle ∧ t.block.done = true)) ∧
    (t.block.cmdResult ≠ s.block.cmdResult → isCommand i = true ∨ i = .reset) ∧
    (t.block.decStatus ≠ s.block.decStatus → i = .decode ∨ i = .reset)

/-! ### Transport events -/

/-- R161: TICK in Idle or TxBusy changes nothing. -/
def Obligations.TickIgnored : Prop :=
  decode 0x00000000#32 = .ok (.tick false) ∧ decode 0x00002000#32 = .ok (.tick true) ∧
  ∀ (s : State) (cd : Bool), s.block.state = .idle ∨ s.block.state = .txBusy →
    exec (.tick cd) s = .next { s with sent := none, readData := none }

/-- R162: TICK on a clear channel sends the first repeat, however late it comes. -/
def Obligations.TickClearChannel : Prop :=
  decode 0x00000000#32 = .ok (.tick false) ∧
  ∀ s : State, s.block.state = .waitAirwayFree → exec (.tick false) s = .next
    { s with
      block := { s.block with repeatsLeft := Config.cfg.txRepeat - 1#8, state := .txBusy }
      sent := some s.block.txFrame, readData := none }

/-- R163: TICK on a busy channel ends the transmission when the airway deadline has passed, and waits until then. -/
def Obligations.TickBusyChannel : Prop :=
  decode 0x00002000#32 = .ok (.tick true) ∧
  ∀ s : State, s.block.state = .waitAirwayFree → exec (.tick true) s = .next
    { s with
      block :=
        if Config.cfg.airwayTimeoutMs.toNat < (s.now.toNat + 2 ^ 32 - s.block.airTs.toNat) % 2 ^ 32 then
          { s.block with
            done := true, compResult := .failure, compReply := false, compTag := s.block.tag, state := .idle
            replyReq := false, retriesLeft := 0#8, repeatsLeft := 0#8 }
        else s.block
      sent := none, readData := none }

/-- R164: TICK in the reply wait retries or fails when the reply timeout has passed, and waits until then. -/
def Obligations.TickReplyWait : Prop :=
  decode 0x00000000#32 = .ok (.tick false) ∧ decode 0x00002000#32 = .ok (.tick true) ∧
  ∀ (s : State) (cd : Bool), s.block.state = .rxWait ∨ s.block.state = .rxBusy → exec (.tick cd) s = .next
    { s with
      block :=
        if Config.cfg.replyTimeoutMs.toNat < (s.now.toNat + 2 ^ 32 - s.block.sendTs.toNat) % 2 ^ 32 then
          if 0 < s.block.retriesLeft.toNat then
            { s.block with
              retriesLeft := BitVec.ofNat 8 (s.block.retriesLeft.toNat - 1), airTs := s.now
              state := .waitAirwayFree }
          else
            { s.block with
              done := true, compResult := .failure, compReply := false, compTag := s.block.tag, state := .idle
              replyReq := false, retriesLeft := 0#8, repeatsLeft := 0#8 }
        else s.block
      sent := none, readData := none }

/-- R165: TX_DONE in TxBusy sends the next repeat, begins the reply wait, or completes. -/
def Obligations.TxDoneResult : Prop :=
  decode 0x30000000#32 = .ok .txDone ∧
  ∀ s : State, s.block.state = .txBusy →
    (s.block.repeatsLeft ≠ 0#8 → exec .txDone s = .next
      { s with
        block := { s.block with repeatsLeft := BitVec.ofNat 8 (s.block.repeatsLeft.toNat - 1) }
        sent := some s.block.txFrame, readData := none }) ∧
    (s.block.repeatsLeft = 0#8 → s.block.replyReq = true → exec .txDone s = .next
      { s with
        block := { s.block with sendTs := s.now, state := .rxWait }, sent := none, readData := none }) ∧
    (s.block.repeatsLeft = 0#8 → s.block.replyReq = false → exec .txDone s = .next
      { s with
        block := { s.block with
          done := true, compResult := .success, compReply := false, compTag := s.block.tag, state := .idle
          replyReq := false, retriesLeft := 0#8, repeatsLeft := 0#8 }
        sent := none, readData := none })

/-- R166: TX_DONE outside TxBusy changes nothing. -/
def Obligations.TxDoneIgnored : Prop :=
  decode 0x30000000#32 = .ok .txDone ∧
  ∀ s : State, s.block.state ≠ .txBusy → exec .txDone s = .next { s with sent := none, readData := none }

/-- R167: RX_START turns RxWait into RxBusy and has no effect in any other state. -/
def Obligations.RxStartResult : Prop :=
  decode 0x40000000#32 = .ok .rxStart ∧
  ∀ s : State,
    (s.block.state = .rxWait → exec .rxStart s = .next
      { s with block := { s.block with state := .rxBusy }, sent := none, readData := none }) ∧
    (s.block.state ≠ .rxWait → exec .rxStart s = .next { s with sent := none, readData := none })

/-- R168, with R113 and R170 written out: RX_DONE is dropped in TxBusy and when the frame fails the checks; an accepted
frame fills the receive buffer, and in the reply wait completes the transmission. -/
def Obligations.RxDoneResult : Prop :=
  (∀ len : Byte, decode (0x50000000#32 ||| len.setWidth 32) = .ok (.rxDone len)) ∧
  ∀ (s : State) (len : Byte),
    (s.block.state = .txBusy → exec (.rxDone len) s = .next { s with sent := none, readData := none }) ∧
    (s.block.state = .idle ∨ s.block.state = .waitAirwayFree → frameAccepted s.block len s.rxData →
      exec (.rxDone len) s = .next
        { s with
          block := { s.block with
            rxOvf := s.block.rxOvf || s.block.rxv, rxBuf := s.rxData, rxv := true }
          sent := none, readData := none }) ∧
    (s.block.state = .rxWait ∨ s.block.state = .rxBusy → frameAccepted s.block len s.rxData →
      exec (.rxDone len) s = .next
        { s with
          block := { s.block with
            rxOvf := s.block.rxOvf || s.block.rxv, rxBuf := s.rxData, rxv := true
            done := true, compResult := .success, compReply := true, compTag := s.block.tag, state := .idle
            replyReq := false, retriesLeft := 0#8, repeatsLeft := 0#8 }
          sent := none, readData := none }) ∧
    (¬ frameAccepted s.block len s.rxData → exec (.rxDone len) s = .next { s with sent := none, readData := none })

/-- R112, with R110 and R111: the receive predicate of any configuration. -/
def Obligations.AcceptPredicate : Prop :=
  ∀ (cfg : Cfg) (b : Block) (len : Byte) (D : Frame),
    accept cfg b len D = true ↔
      len.toNat = 16 ∧ cfg.checksum (Vector.ofFn fun i : Fin 14 => D[i.val]) = D[14] ++ D[15] ∧
      (D[0] = cfg.broadcastType ∨ (D[0] = b.myType ∧ D[1] = b.myId))

/-- R204, R114: an event that its state does not expect, and a rejected frame, leave every field of the block as it
was, and send nothing. -/
def Obligations.SilentDrops : Prop :=
  ∀ (s : State) (len : Byte),
    (¬ frameAccepted s.block len s.rxData →
      ∃ t, exec (.rxDone len) s = .next t ∧ t.block = s.block ∧ t.sent = none) ∧
    (s.block.state = .txBusy → ∃ t, exec (.rxDone len) s = .next t ∧ t.block = s.block ∧ t.sent = none) ∧
    (s.block.state ≠ .txBusy → ∃ t, exec .txDone s = .next t ∧ t.block = s.block ∧ t.sent = none) ∧
    (s.block.state ≠ .rxWait → ∃ t, exec .rxStart s = .next t ∧ t.block = s.block ∧ t.sent = none)

/-- R213, the block's own duty: a send comes only from a clear channel in WaitAirwayFree or from the TX_DONE of the send
before it; it is TXFRAME, and TxBusy then waits for its TX_DONE. -/
def Obligations.SendsWaitForTxDone : Prop :=
  ∀ (i : Instr) (s t : State) (F : Frame), exec i s = .next t → t.sent = some F →
    F = s.block.txFrame ∧ t.block.txFrame = F ∧ t.block.state = .txBusy ∧
      ((s.block.state = .waitAirwayFree ∧ i = .tick false) ∨ (s.block.state = .txBusy ∧ i = .txDone))

/-- R171: whatever changes STATE or sends a frame is a row of the transition table. -/
def Obligations.TransitionTable : Prop :=
  ∀ (i : Instr) (s t : State), exec i s = .next t →
    t.block.state ≠ s.block.state ∨ t.sent ≠ none → TransitionRow s t i

/-- R203: a completion, and any change of the completion record but by RESET, has one of four causes. -/
def Obligations.CompletionCauses : Prop :=
  ∀ (i : Instr) (s t : State), exec i s = .next t → i ≠ .reset →
    recordChanged s t ∨ (s.block.state ≠ .idle ∧ t.block.state = .idle) → CompletionCause s t i

/-- R172: the clear channel sends one frame and leaves TX_REPEAT − 1, and without a RESET exactly as many frames as
REPEATS_LEFT says follow before TxBusy is left. -/
def Obligations.AttemptSendCount : Prop :=
  (∀ s : State, s.block.state = .waitAirwayFree → ∃ t, exec (.tick false) s = .next t ∧
    t.block.state = .txBusy ∧ sendCount t = 1 ∧ t.block.repeatsLeft.toNat + 1 = Config.cfg.txRepeat.toNat) ∧
  (∀ (k n : Nat) (s : State), s.block.state = .txBusy → (∀ e ∈ s.inbox, decode e.word ≠ .ok .reset) →
    sendsUntilSent k s = some n → n = s.block.repeatsLeft.toNat)

/-- R173: whatever events follow, a transmission begun by START_TX has at most one attempt and TX_REPEAT sends, one
begun by START_TX_REPLY at most REPLY_RETRIES + 1 attempts of TX_REPEAT sends each. -/
def Obligations.AttemptBound : Prop :=
  ∀ (k : Nat) (s : State), s.block.state = .idle →
    (∃ t, exec .startTx s = .next t ∧ attemptsUntilIdle k t ≤ 1 ∧
      sendsUntilIdle k t ≤ Config.cfg.txRepeat.toNat) ∧
    (∃ t, exec .startTxReply s = .next t ∧ attemptsUntilIdle k t ≤ s.block.replyRetries.toNat + 1 ∧
      sendsUntilIdle k t ≤ (s.block.replyRetries.toNat + 1) * Config.cfg.txRepeat.toNat)

/-- R174 as a bound: whatever else happens, a slot is free before as many of the events that R174 asks of the
environment have come as its rank says. -/
def Obligations.ProgressBound : Prop :=
  ∀ (k : Nat) (s : State), freedWithin k s = true ∨ dueUntilIdle k s < rank s.block

/-- R174 and R173 as one step: a step from an occupied slot frees it or does not raise its rank, and a step on an event
that R174 asks the environment for frees it or lowers the rank. -/
def Obligations.StepLowersRank : Prop :=
  ∀ s t : State, s.block.state ≠ .idle → step s = .next t →
    t.block.state = .idle ∨ rank t.block + (if due s then 1 else 0) ≤ rank s.block

/-- R239: from TxBusy, over any run of events other than TX_DONE and RESET, the block stays in TxBusy and sends
nothing more; RESET leaves TxBusy. -/
def Obligations.TxBusyHasNoTimeout : Prop :=
  (∀ (k : Nat) (s t : State), s.block.state = .txBusy →
    (∀ e ∈ s.inbox, decode e.word ≠ .ok .txDone ∧ decode e.word ≠ .ok .reset) →
    run k s = .next t → t.block.state = .txBusy ∧ (0 < k → t.sent = none) ∧
      t.block.txFrame = s.block.txFrame ∧ t.block.repeatsLeft = s.block.repeatsLeft) ∧
  ∀ s : State, s.block.state = .txBusy → ∃ t, exec .reset s = .next t ∧ t.block.state = .idle

/-! ### Invariants -/

/-- R42: every step keeps the invariants, from every state that has them. -/
def Obligations.StepKeepsInvariants : Prop :=
  ∀ s t : State, Inv s.block → step s = .next t → Inv t.block

/-- R42: the reset state has the invariants. -/
def Obligations.ResetHasInvariants : Prop := Inv State.reset.block

/-- R42: whatever events the environment presents after reset, every state of the run has the invariants. -/
def Obligations.ReachableStatesHaveInvariants : Prop :=
  ∀ (k : Nat) (events : List Event) (s : State), run k { State.reset with inbox := events } = .next s → Inv s.block

/-! ### Notification, hazards, what is never interpreted -/

/-- R205: the interrupt output, its acknowledgement and its mask. -/
def Obligations.InterruptOutput : Prop :=
  (∀ b : Block, irq b = true ↔ (b.done = true ∧ b.doneIe = true) ∨ (b.rxv = true ∧ b.rxvIe = true)) ∧
  ∀ s : State, ∃ t u m, exec .ackDone s = .next t ∧ (irq t.block = true ↔ s.block.rxv = true ∧ s.block.rxvIe = true) ∧
    exec .rxAck s = .next u ∧ (irq u.block = true ↔ s.block.done = true ∧ s.block.doneIe = true) ∧
    exec (.regWrite 0x06#6 0x00#8) s = .next m ∧ irq m.block = false ∧
    m.block.done = s.block.done ∧ m.block.rxv = s.block.rxv

/-- R206: the events of one cycle come in the fixed order; every source that presents one is there; a RESET stands
alone; the RX_DONE event carries the cycle's RXDATA. The arbiter stands before the inbox, and that every event of a cycle
samples one NOW is the model's choice (log entry 10). -/
def Obligations.SameCycleOrder : Prop :=
  ∀ c : Cycle, ∃ is : List Instr, (arbitrate c).map (fun e => decode e.word) = is.map .ok ∧
    (is.map sourcePlace).Pairwise (· < ·) ∧
    (c.reset = true → is = [.reset]) ∧
    (c.reset = false →
      (∀ len, .rxDone len ∈ is ↔ ∃ D, c.rxDone = some (len, D)) ∧ (.txDone ∈ is ↔ c.txDone = true) ∧
      (.rxStart ∈ is ↔ c.rxStart = true) ∧ (∀ cd, .tick cd ∈ is ↔ c.tick = some cd) ∧
      (∀ h, c.host = some h → hostInstr h ∈ is) ∧ .reset ∉ is ∧
      (c.host = none → ∀ i ∈ is, sourcePlace i ≠ 5)) ∧
    ∀ e ∈ arbitrate c, e.now = c.now ∧
      ∀ len, decode e.word = .ok (.rxDone len) → c.rxDone = some (len, e.rxData)

/-- R26: the block never interprets a tag: two states alike but for TX_TAG, TAG and COMP_TAG step alike but for them. -/
def Obligations.TagNeverInterpreted : Prop :=
  ∀ s s' : State, hideTags s = hideTags s' → sameButTags (step s) (step s')

/-- R72: bytes 2 to 13 of a received frame act only through its checksum: two frames with the same destination, both
with a right trailer or both with a wrong one, have the same effect but for the bytes in RXBUF. -/
def Obligations.PayloadNeverInterpreted : Prop :=
  ∀ (s : State) (D : Frame) (len : Byte), s.rxData[0] = D[0] → s.rxData[1] = D[1] →
    (Config.cfg.checksum (header s.rxData) = trailer s.rxData ↔ Config.cfg.checksum (header D) = trailer D) →
    ∃ t u, exec (.rxDone len) s = .next t ∧ exec (.rxDone len) { s with rxData := D } = .next u ∧
      { t.block with rxBuf := zeroFrame } = { u.block with rxBuf := zeroFrame } ∧
      ((t.block.rxBuf = s.rxData ∧ u.block.rxBuf = D) ∨ (t.block.rxBuf = s.block.rxBuf ∧ u.block.rxBuf = s.block.rxBuf))

/-- R235: where RXV is 1 before a run without RX_ACK and RESET, and RX_OVF is 0 after it, RXBUF held the same frame
all along. -/
def Obligations.TearingIsDetected : Prop :=
  ∀ (j k : Nat) (s t u : State), s.block.rxv = true →
    (∀ e ∈ s.inbox, decode e.word ≠ .ok .rxAck ∧ decode e.word ≠ .ok .reset) →
    run j s = .next t → run k t = .next u → u.block.rxOvf = false →
    t.block.rxBuf = s.block.rxBuf ∧ u.block.rxBuf = s.block.rxBuf

/-- R238: ENCODE, then START_TX, then a clear channel sends FB[0..13] verbatim under a right trailer. -/
def Obligations.PreparedFrameIsSent : Prop :=
  ∀ s : State, s.block.state = .idle → ∃ t u v F, exec .encode s = .next t ∧ exec .startTx t = .next u ∧
    exec (.tick false) u = .next v ∧ v.sent = some F ∧ F = v.block.fb ∧
    (∀ (i : Nat) (h : i < 14), F[i] = s.block.fb[i]) ∧ Config.cfg.checksum (header F) = trailer F

/-- R233: with the reset identity, a frame that is not of the broadcast type is accepted only where its destination is
type 0x00, id 0x00; with the default BROADCAST_TYPE of 0x00 only broadcast-type frames are. -/
def Obligations.ResetIdentityFilter : Prop :=
  ∀ (cfg : Cfg) (len : Byte) (D : Frame), accept cfg State.reset.block len D = true →
    (D[0] ≠ cfg.broadcastType → D[0] = 0x00#8 ∧ D[1] = 0x00#8) ∧
    (cfg.broadcastType = 0x00#8 → D[0] = cfg.broadcastType)
end

