-- ==== Sys2Proof/Laws/Encoding.lean ====
section
/-! SUPPORT. The event word's fields and its construction undo each other: each field of a built word is the field it
was built from, and a word is built again from its fields. -/

namespace Sys2Proof

section
variable (k : BitVec 4) (a : BitVec 6) (d : Byte) (c : Bool) (l : Byte)

@[simp] theorem kindOf_eventWord : kindOf (eventWord k a d c l) = k := by
  ext i hi; interval_cases i <;> simp [kindOf, eventWord]

@[simp] theorem addrOf_eventWord : addrOf (eventWord k a d c l) = a := by
  ext i hi; interval_cases i <;> simp [addrOf, eventWord]

@[simp] theorem dataOf_eventWord : dataOf (eventWord k a d c l) = d := by
  ext i hi; interval_cases i <;> simp [dataOf, eventWord]

@[simp] theorem reservedOf_eventWord : reservedOf (eventWord k a d c l) = 0#5 := by
  ext i hi; interval_cases i <;> simp [reservedOf, eventWord]

@[simp] theorem lenOf_eventWord : lenOf (eventWord k a d c l) = l := by
  ext i hi; interval_cases i <;> simp [lenOf, eventWord]

@[simp] theorem cdOf_eventWord : cdOf (eventWord k a d c l) = c := by
  simp [cdOf, eventWord]

end

/-- A word whose reserved bits are 0 is built from its fields. -/
theorem eventWord_fields (w : Word) (h : reservedOf w = 0#5) :
    eventWord (kindOf w) (addrOf w) (dataOf w) (cdOf w) (lenOf w) = w := by
  have hr : ∀ j : Fin 5, w.getLsbD (8 + j) = false := by
    intro j
    have := congrArg (fun v : BitVec 5 => v.getLsbD j) h
    simpa [reservedOf] using this
  ext i hi
  have h0 := hr 0; have h1 := hr 1; have h2 := hr 2; have h3 := hr 3; have h4 := hr 4
  interval_cases i <;>
    simp_all [eventWord, kindOf, addrOf, dataOf, cdOf, lenOf, BitVec.getLsbD_eq_getElem]

/-- What decoding can answer: the event that KIND names, where no field offends. -/
theorem decode_eq_ok (w : Word) (i : Instr) :
    decode w = .ok i ↔ eventOf w = some i ∧ offendingFields w = [] := by
  unfold decode
  cases eventOf w <;> cases offendingFields w <;> simp

/-- A refusal names the word's KIND and its offending fields. -/
theorem decode_eq_error (w : Word) (m : Malformed) (h : decode w = .error m) :
    m = ⟨kindOf w, offendingFields w⟩ := by
  unfold decode at h
  cases he : eventOf w <;> cases ho : offendingFields w <;> rw [he, ho] at h <;> simp_all

theorem mem_offendingFields (w : Word) (f : EventField) : f ∈ offendingFields w ↔ fieldOffends w f = true := by
  cases f <;> simp [offendingFields]

end Sys2Proof
end

