-- ==== Sys2Proof/Laws/State.lean ====
section
/-! SUPPORT. One lemma for each field of each record update that the operations share, so that no later proof unfolds an
update. -/

namespace Sys2Proof.Machine

/-! ### The end of a step, sampling, presenting -/

@[simp] theorem finish_block (s : State) (b : Block) (o : Option Frame) (r : Option Byte) : (finish s b o r).block = b := rfl
@[simp] theorem finish_inbox (s : State) (b : Block) (o : Option Frame) (r : Option Byte) : (finish s b o r).inbox = s.inbox := rfl
@[simp] theorem finish_now (s : State) (b : Block) (o : Option Frame) (r : Option Byte) : (finish s b o r).now = s.now := rfl
@[simp] theorem finish_rxData (s : State) (b : Block) (o : Option Frame) (r : Option Byte) : (finish s b o r).rxData = s.rxData := rfl
@[simp] theorem finish_sent (s : State) (b : Block) (o : Option Frame) (r : Option Byte) : (finish s b o r).sent = o := rfl
@[simp] theorem finish_readData (s : State) (b : Block) (o : Option Frame) (r : Option Byte) : (finish s b o r).readData = r := rfl

@[simp] theorem quiet_block (s : State) (b : Block) : (quiet s b).block = b := rfl
@[simp] theorem quiet_inbox (s : State) (b : Block) : (quiet s b).inbox = s.inbox := rfl
@[simp] theorem quiet_now (s : State) (b : Block) : (quiet s b).now = s.now := rfl
@[simp] theorem quiet_rxData (s : State) (b : Block) : (quiet s b).rxData = s.rxData := rfl
@[simp] theorem quiet_sent (s : State) (b : Block) : (quiet s b).sent = none := rfl
@[simp] theorem quiet_readData (s : State) (b : Block) : (quiet s b).readData = none := rfl

@[simp] theorem emit_block (s : State) (r : Block × Option Frame) : (emit s r).block = r.1 := rfl
@[simp] theorem emit_inbox (s : State) (r : Block × Option Frame) : (emit s r).inbox = s.inbox := rfl
@[simp] theorem emit_now (s : State) (r : Block × Option Frame) : (emit s r).now = s.now := rfl
@[simp] theorem emit_rxData (s : State) (r : Block × Option Frame) : (emit s r).rxData = s.rxData := rfl
@[simp] theorem emit_sent (s : State) (r : Block × Option Frame) : (emit s r).sent = r.2 := rfl
@[simp] theorem emit_readData (s : State) (r : Block × Option Frame) : (emit s r).readData = none := rfl

@[simp] theorem sample_block (s : State) (e : Event) (rest : List Event) : (sample s e rest).block = s.block := rfl
@[simp] theorem sample_inbox (s : State) (e : Event) (rest : List Event) : (sample s e rest).inbox = rest := rfl
@[simp] theorem sample_now (s : State) (e : Event) (rest : List Event) : (sample s e rest).now = e.now := rfl
@[simp] theorem sample_rxData (s : State) (e : Event) (rest : List Event) : (sample s e rest).rxData = e.rxData := rfl
@[simp] theorem sample_sent (s : State) (e : Event) (rest : List Event) : (sample s e rest).sent = s.sent := rfl
@[simp] theorem sample_readData (s : State) (e : Event) (rest : List Event) : (sample s e rest).readData = s.readData := rfl

@[simp] theorem present_block (s : State) (e : Event) : (present s e).block = s.block := rfl
@[simp] theorem present_inbox (s : State) (e : Event) : (present s e).inbox = s.inbox ++ [e] := rfl
@[simp] theorem present_now (s : State) (e : Event) : (present s e).now = s.now := rfl
@[simp] theorem present_rxData (s : State) (e : Event) : (present s e).rxData = s.rxData := rfl
@[simp] theorem present_sent (s : State) (e : Event) : (present s e).sent = s.sent := rfl
@[simp] theorem present_readData (s : State) (e : Event) : (present s e).readData = s.readData := rfl

/-! ### Reset -/

@[simp] theorem Block.reset_eq : Block.reset = Block.resetOf Config.cfg := rfl
@[simp] theorem Block.resetOf_state (cfg : Cfg) : (Block.resetOf cfg).state = .idle := rfl
@[simp] theorem Block.resetOf_replyReq (cfg : Cfg) : (Block.resetOf cfg).replyReq = false := rfl
@[simp] theorem Block.resetOf_txFrame (cfg : Cfg) : (Block.resetOf cfg).txFrame = zeroFrame := rfl
@[simp] theorem Block.resetOf_tag (cfg : Cfg) : (Block.resetOf cfg).tag = 0x00#8 := rfl
@[simp] theorem Block.resetOf_retriesLeft (cfg : Cfg) : (Block.resetOf cfg).retriesLeft = 0#8 := rfl
@[simp] theorem Block.resetOf_repeatsLeft (cfg : Cfg) : (Block.resetOf cfg).repeatsLeft = 0#8 := rfl
@[simp] theorem Block.resetOf_sendTs (cfg : Cfg) : (Block.resetOf cfg).sendTs = 0#32 := rfl
@[simp] theorem Block.resetOf_airTs (cfg : Cfg) : (Block.resetOf cfg).airTs = 0#32 := rfl
@[simp] theorem Block.resetOf_done (cfg : Cfg) : (Block.resetOf cfg).done = false := rfl
@[simp] theorem Block.resetOf_compResult (cfg : Cfg) : (Block.resetOf cfg).compResult = .success := rfl
@[simp] theorem Block.resetOf_compReply (cfg : Cfg) : (Block.resetOf cfg).compReply = false := rfl
@[simp] theorem Block.resetOf_compTag (cfg : Cfg) : (Block.resetOf cfg).compTag = 0x00#8 := rfl
@[simp] theorem Block.resetOf_rxBuf (cfg : Cfg) : (Block.resetOf cfg).rxBuf = zeroFrame := rfl
@[simp] theorem Block.resetOf_rxv (cfg : Cfg) : (Block.resetOf cfg).rxv = false := rfl
@[simp] theorem Block.resetOf_rxOvf (cfg : Cfg) : (Block.resetOf cfg).rxOvf = false := rfl
@[simp] theorem Block.resetOf_cmdResult (cfg : Cfg) : (Block.resetOf cfg).cmdResult = .success := rfl
@[simp] theorem Block.resetOf_decStatus (cfg : Cfg) : (Block.resetOf cfg).decStatus = .ok := rfl
@[simp] theorem Block.resetOf_fb (cfg : Cfg) : (Block.resetOf cfg).fb = zeroFrame := rfl
@[simp] theorem Block.resetOf_flen (cfg : Cfg) : (Block.resetOf cfg).flen = 0x10#8 := rfl
@[simp] theorem Block.resetOf_txTag (cfg : Cfg) : (Block.resetOf cfg).txTag = 0x00#8 := rfl
@[simp] theorem Block.resetOf_replyRetries (cfg : Cfg) : (Block.resetOf cfg).replyRetries = cfg.replyRetriesReset := rfl
@[simp] theorem Block.resetOf_myType (cfg : Cfg) : (Block.resetOf cfg).myType = 0x00#8 := rfl
@[simp] theorem Block.resetOf_myId (cfg : Cfg) : (Block.resetOf cfg).myId = 0x00#8 := rfl
@[simp] theorem Block.resetOf_doneIe (cfg : Cfg) : (Block.resetOf cfg).doneIe = false := rfl
@[simp] theorem Block.resetOf_rxvIe (cfg : Cfg) : (Block.resetOf cfg).rxvIe = false := rfl

/-! ### Completion -/

@[simp] theorem complete_state (r : Result) (p : Bool) (b : Block) : (complete r p b).state = .idle := rfl
@[simp] theorem complete_replyReq (r : Result) (p : Bool) (b : Block) : (complete r p b).replyReq = false := rfl
@[simp] theorem complete_txFrame (r : Result) (p : Bool) (b : Block) : (complete r p b).txFrame = b.txFrame := rfl
@[simp] theorem complete_tag (r : Result) (p : Bool) (b : Block) : (complete r p b).tag = b.tag := rfl
@[simp] theorem complete_retriesLeft (r : Result) (p : Bool) (b : Block) : (complete r p b).retriesLeft = 0#8 := rfl
@[simp] theorem complete_repeatsLeft (r : Result) (p : Bool) (b : Block) : (complete r p b).repeatsLeft = 0#8 := rfl
@[simp] theorem complete_sendTs (r : Result) (p : Bool) (b : Block) : (complete r p b).sendTs = b.sendTs := rfl
@[simp] theorem complete_airTs (r : Result) (p : Bool) (b : Block) : (complete r p b).airTs = b.airTs := rfl
@[simp] theorem complete_done (r : Result) (p : Bool) (b : Block) : (complete r p b).done = true := rfl
@[simp] theorem complete_compResult (r : Result) (p : Bool) (b : Block) : (complete r p b).compResult = r := rfl
@[simp] theorem complete_compReply (r : Result) (p : Bool) (b : Block) : (complete r p b).compReply = p := rfl
@[simp] theorem complete_compTag (r : Result) (p : Bool) (b : Block) : (complete r p b).compTag = b.tag := rfl
@[simp] theorem complete_rxBuf (r : Result) (p : Bool) (b : Block) : (complete r p b).rxBuf = b.rxBuf := rfl
@[simp] theorem complete_rxv (r : Result) (p : Bool) (b : Block) : (complete r p b).rxv = b.rxv := rfl
@[simp] theorem complete_rxOvf (r : Result) (p : Bool) (b : Block) : (complete r p b).rxOvf = b.rxOvf := rfl
@[simp] theorem complete_cmdResult (r : Result) (p : Bool) (b : Block) : (complete r p b).cmdResult = b.cmdResult := rfl
@[simp] theorem complete_decStatus (r : Result) (p : Bool) (b : Block) : (complete r p b).decStatus = b.decStatus := rfl
@[simp] theorem complete_fb (r : Result) (p : Bool) (b : Block) : (complete r p b).fb = b.fb := rfl
@[simp] theorem complete_flen (r : Result) (p : Bool) (b : Block) : (complete r p b).flen = b.flen := rfl
@[simp] theorem complete_txTag (r : Result) (p : Bool) (b : Block) : (complete r p b).txTag = b.txTag := rfl
@[simp] theorem complete_replyRetries (r : Result) (p : Bool) (b : Block) : (complete r p b).replyRetries = b.replyRetries := rfl
@[simp] theorem complete_myType (r : Result) (p : Bool) (b : Block) : (complete r p b).myType = b.myType := rfl
@[simp] theorem complete_myId (r : Result) (p : Bool) (b : Block) : (complete r p b).myId = b.myId := rfl
@[simp] theorem complete_doneIe (r : Result) (p : Bool) (b : Block) : (complete r p b).doneIe = b.doneIe := rfl
@[simp] theorem complete_rxvIe (r : Result) (p : Bool) (b : Block) : (complete r p b).rxvIe = b.rxvIe := rfl

/-! ### Forwarding -/

@[simp] theorem forward_state (D : Frame) (b : Block) : (forward D b).state = b.state := rfl
@[simp] theorem forward_replyReq (D : Frame) (b : Block) : (forward D b).replyReq = b.replyReq := rfl
@[simp] theorem forward_txFrame (D : Frame) (b : Block) : (forward D b).txFrame = b.txFrame := rfl
@[simp] theorem forward_tag (D : Frame) (b : Block) : (forward D b).tag = b.tag := rfl
@[simp] theorem forward_retriesLeft (D : Frame) (b : Block) : (forward D b).retriesLeft = b.retriesLeft := rfl
@[simp] theorem forward_repeatsLeft (D : Frame) (b : Block) : (forward D b).repeatsLeft = b.repeatsLeft := rfl
@[simp] theorem forward_sendTs (D : Frame) (b : Block) : (forward D b).sendTs = b.sendTs := rfl
@[simp] theorem forward_airTs (D : Frame) (b : Block) : (forward D b).airTs = b.airTs := rfl
@[simp] theorem forward_done (D : Frame) (b : Block) : (forward D b).done = b.done := rfl
@[simp] theorem forward_compResult (D : Frame) (b : Block) : (forward D b).compResult = b.compResult := rfl
@[simp] theorem forward_compReply (D : Frame) (b : Block) : (forward D b).compReply = b.compReply := rfl
@[simp] theorem forward_compTag (D : Frame) (b : Block) : (forward D b).compTag = b.compTag := rfl
@[simp] theorem forward_rxBuf (D : Frame) (b : Block) : (forward D b).rxBuf = D := rfl
@[simp] theorem forward_rxv (D : Frame) (b : Block) : (forward D b).rxv = true := rfl
@[simp] theorem forward_rxOvf (D : Frame) (b : Block) : (forward D b).rxOvf = (b.rxOvf || b.rxv) := rfl
@[simp] theorem forward_cmdResult (D : Frame) (b : Block) : (forward D b).cmdResult = b.cmdResult := rfl
@[simp] theorem forward_decStatus (D : Frame) (b : Block) : (forward D b).decStatus = b.decStatus := rfl
@[simp] theorem forward_fb (D : Frame) (b : Block) : (forward D b).fb = b.fb := rfl
@[simp] theorem forward_flen (D : Frame) (b : Block) : (forward D b).flen = b.flen := rfl
@[simp] theorem forward_txTag (D : Frame) (b : Block) : (forward D b).txTag = b.txTag := rfl
@[simp] theorem forward_replyRetries (D : Frame) (b : Block) : (forward D b).replyRetries = b.replyRetries := rfl
@[simp] theorem forward_myType (D : Frame) (b : Block) : (forward D b).myType = b.myType := rfl
@[simp] theorem forward_myId (D : Frame) (b : Block) : (forward D b).myId = b.myId := rfl
@[simp] theorem forward_doneIe (D : Frame) (b : Block) : (forward D b).doneIe = b.doneIe := rfl
@[simp] theorem forward_rxvIe (D : Frame) (b : Block) : (forward D b).rxvIe = b.rxvIe := rfl

end Sys2Proof.Machine
end

