-- ==== Sys2Proof/Laws/Ops.lean ====
section
/-! SUPPORT. For each shared operation, one lemma that says once everything it can do; later proofs cite it instead of
unfolding the operation. -/

namespace Sys2Proof.Machine

/-! ### The frame -/

@[simp] theorem header_getElem (F : Frame) (i : Nat) (h : i < 14) : (header F)[i] = F[i] := by simp [header]

/-- Writing the trailer leaves bytes 0 to 13. -/
theorem setTrailer_getElem (F : Frame) (ck : BitVec 16) (i : Nat) (h : i < 14) : (setTrailer F ck)[i] = F[i] := by
  simp only [setTrailer]
  rw [Vector.getElem_set_ne (by omega) (by omega) (by omega), Vector.getElem_set_ne (by omega) (by omega) (by omega)]

@[simp] theorem header_setTrailer (F : Frame) (ck : BitVec 16) : header (setTrailer F ck) = header F := by
  ext i h; simp [setTrailer_getElem F ck i h]

/-- The trailer written is the trailer read. -/
@[simp] theorem trailer_setTrailer (F : Frame) (ck : BitVec 16) : trailer (setTrailer F ck) = ck := by
  have h14 : (setTrailer F ck)[14] = ck.extractLsb' 8 8 := by simp [setTrailer]
  have h15 : (setTrailer F ck)[15] = ck.extractLsb' 0 8 := by simp [setTrailer]
  simp only [trailer, ckHi, ckLo, h14, h15]
  exact BitVec.extractLsb'_append_extractLsb'_eq_extractLsb' (by rfl) |>.trans (by simp)

@[simp] theorem frameChecksum_setTrailer (cfg : Cfg) (F : Frame) (ck : BitVec 16) :
    frameChecksum cfg (setTrailer F ck) = frameChecksum cfg F := by
  simp [frameChecksum]

/-! ### Elapsed time -/

/-- A timeout has passed where more than `limit` ms lie between the stamp and now, modulo 2^32. -/
theorem expired_iff (limit now stamp : Word) : expired limit now stamp = true ↔ limit < now - stamp := by
  unfold expired elapsed
  exact decide_eq_true_iff

/-! ### The host register window -/

/-- A write to FB shows at its own address only. -/
theorem readReg_setFb_ne (b : Block) (i : Fin 16) (v : Byte) (c : BitVec 6) (h : c.toNat ≠ 0x10 + i) :
    readReg { b with fb := b.fb.set i v } c = readReg b c := by
  unfold readReg
  iterate 13 refine ite_congr rfl (fun _ => rfl) (fun _ => ?_)
  exact dite_congr rfl (fun _ => Vector.getElem_set_ne i.isLt (by omega) (by omega)) (fun _ => rfl)

/-- What a register write can do: the whole effect, by address. -/
theorem writeReg_cases (b : Block) (a : BitVec 6) (v : Byte) :
    (a = 0x06#6 ∧ writeReg b a v = { b with doneIe := v.getLsbD 0, rxvIe := v.getLsbD 1 }) ∨
    (a = 0x07#6 ∧ writeReg b a v = { b with txTag := v }) ∨
    (a = 0x08#6 ∧ writeReg b a v = { b with replyRetries := v }) ∨
    (a = 0x09#6 ∧ writeReg b a v = { b with myType := v }) ∨
    (a = 0x0A#6 ∧ writeReg b a v = { b with myId := v }) ∨
    (a = 0x0B#6 ∧ writeReg b a v = { b with flen := v }) ∨
    (∃ i : Fin 16, a.toNat = 0x10 + i ∧ writeReg b a v = { b with fb := b.fb.set i v }) ∨
    ((a.toNat < 6 ∨ (0x0C ≤ a.toNat ∧ a.toNat < 0x10) ∨ 0x20 ≤ a.toNat) ∧ writeReg b a v = b) := by
  unfold writeReg
  split_ifs with h6 h7 h8 h9 hA hB hF
  all_goals try simp_all
  · exact .inl ⟨⟨a.toNat - 0x10, by omega⟩, by simp; omega, rfl⟩
  · refine .inr ?_
    have : a.toNat ≠ 6 ∧ a.toNat ≠ 7 ∧ a.toNat ≠ 8 ∧ a.toNat ≠ 9 ∧ a.toNat ≠ 10 ∧ a.toNat ≠ 11 := by
      refine ⟨?_, ?_, ?_, ?_, ?_, ?_⟩ <;> intro h <;> simp_all [← BitVec.toNat_inj]
    omega

/-! ### The pending transmission -/

/-- A start command in Idle fills the slot. -/
theorem startTransmit_idle (reply : Bool) (n : Byte) (now : Word) (b : Block) (h : b.state = .idle) :
    startTransmit reply n now b =
      { b with
        txFrame := b.fb, tag := b.txTag, replyReq := reply, retriesLeft := n, repeatsLeft := 0#8, airTs := now
        state := .waitAirwayFree, cmdResult := .success } := by
  simp [startTransmit, h]

/-- A start command elsewhere is turned away. -/
theorem startTransmit_busy (reply : Bool) (n : Byte) (now : Word) (b : Block) (h : b.state ≠ .idle) :
    startTransmit reply n now b = { b with cmdResult := .busy } := by
  unfold startTransmit; split <;> simp_all

/-- Everything TICK can do. -/
theorem tick_cases (cfg : Cfg) (cd : Bool) (now : Word) (b : Block) :
    tick cfg cd now b = (b, none) ∨
    (b.state = .waitAirwayFree ∧ cd = false ∧
      tick cfg cd now b = ({ b with repeatsLeft := cfg.txRepeat - 1#8, state := .txBusy }, some b.txFrame)) ∨
    (b.state = .waitAirwayFree ∧ cd = true ∧ expired cfg.airwayTimeoutMs now b.airTs = true ∧
      tick cfg cd now b = (complete .failure false b, none)) ∨
    ((b.state = .rxWait ∨ b.state = .rxBusy) ∧ expired cfg.replyTimeoutMs now b.sendTs = true ∧ 0#8 < b.retriesLeft ∧
      tick cfg cd now b =
        ({ b with retriesLeft := b.retriesLeft - 1#8, airTs := now, state := .waitAirwayFree }, none)) ∨
    ((b.state = .rxWait ∨ b.state = .rxBusy) ∧ expired cfg.replyTimeoutMs now b.sendTs = true ∧ b.retriesLeft = 0#8 ∧
      tick cfg cd now b = (complete .failure false b, none)) := by
  have z : ¬ 0#8 < b.retriesLeft → b.retriesLeft = 0#8 := by intro h; bv_omega
  unfold tick
  split <;> (try split_ifs) <;> simp_all

/-- Everything TX_DONE can do. -/
theorem transmitDone_cases (now : Word) (b : Block) :
    (b.state ≠ .txBusy ∧ transmitDone now b = (b, none)) ∨
    (b.state = .txBusy ∧ 0#8 < b.repeatsLeft ∧
      transmitDone now b = ({ b with repeatsLeft := b.repeatsLeft - 1#8 }, some b.txFrame)) ∨
    (b.state = .txBusy ∧ b.repeatsLeft = 0#8 ∧ b.replyReq = true ∧
      transmitDone now b = ({ b with sendTs := now, state := .rxWait }, none)) ∨
    (b.state = .txBusy ∧ b.repeatsLeft = 0#8 ∧ b.replyReq = false ∧
      transmitDone now b = (complete .success false b, none)) := by
  have z : ¬ 0#8 < b.repeatsLeft → b.repeatsLeft = 0#8 := by intro h; bv_omega
  unfold transmitDone
  split <;> (try split_ifs) <;> simp_all

/-- Everything RX_START can do. -/
theorem receiveStart_cases (b : Block) :
    (b.state ≠ .rxWait ∧ receiveStart b = b) ∨
    (b.state = .rxWait ∧ receiveStart b = { b with state := .rxBusy }) := by
  unfold receiveStart; split <;> simp_all

/-- Everything RX_DONE can do. -/
theorem receiveDone_cases (cfg : Cfg) (n : Byte) (D : Frame) (b : Block) :
    ((b.state = .txBusy ∨ accept cfg b n D = false) ∧ receiveDone cfg n D b = b) ∨
    ((b.state = .idle ∨ b.state = .waitAirwayFree) ∧ accept cfg b n D = true ∧ receiveDone cfg n D b = forward D b) ∨
    ((b.state = .rxWait ∨ b.state = .rxBusy) ∧ accept cfg b n D = true ∧
      receiveDone cfg n D b = complete .success true (forward D b)) := by
  unfold receiveDone
  split <;> (try split_ifs) <;> simp_all

/-! ### exec and step -/

section
variable (s : State)

@[simp] theorem exec_tick (cd : Bool) : exec (.tick cd) s = .next (emit s (tick Config.cfg cd s.now s.block)) := rfl
@[simp] theorem exec_regWrite (a : BitVec 6) (v : Byte) :
    exec (.regWrite a v) s = .next (quiet s (writeReg s.block a v)) := rfl
@[simp] theorem exec_cmdReserved (c : Byte) :
    exec (.cmdReserved c) s = .next (quiet s { s.block with cmdResult := .illegal }) := rfl
@[simp] theorem exec_nop : exec .nop s = .next (quiet s { s.block with cmdResult := .success }) := rfl
@[simp] theorem exec_encode : exec .encode s = .next (quiet s (encodeFrame Config.cfg s.block)) := rfl
@[simp] theorem exec_decode : exec .decode s = .next (quiet s (decodeFrame Config.cfg s.block)) := rfl
@[simp] theorem exec_startTx : exec .startTx s = .next (quiet s (startTransmit false 0#8 s.now s.block)) := rfl
@[simp] theorem exec_startTxReply :
    exec .startTxReply s = .next (quiet s (startTransmit true s.block.replyRetries s.now s.block)) := rfl
@[simp] theorem exec_ackDone :
    exec .ackDone s = .next (quiet s { s.block with done := false, cmdResult := .success }) := rfl
@[simp] theorem exec_rxAck :
    exec .rxAck s = .next (quiet s { s.block with rxv := false, rxOvf := false, cmdResult := .success }) := rfl
@[simp] theorem exec_regRead (a : BitVec 6) :
    exec (.regRead a) s = .next (finish s s.block none (some (readReg s.block a))) := rfl
@[simp] theorem exec_txDone : exec .txDone s = .next (emit s (transmitDone s.now s.block)) := rfl
@[simp] theorem exec_rxStart : exec .rxStart s = .next (quiet s (receiveStart s.block)) := rfl
@[simp] theorem exec_rxDone (n : Byte) :
    exec (.rxDone n) s = .next (quiet s (receiveDone Config.cfg n s.rxData s.block)) := rfl
@[simp] theorem exec_reset : exec .reset s = .next (quiet s Block.reset) := rfl

end

/-- A step that answers a next state had no event to run, or ran the event of the oldest word. -/
theorem step_cases (s t : State) (h : step s = .next t) :
    (s.inbox = [] ∧ t = quiet s s.block) ∨
    ∃ e rest i, s.inbox = e :: rest ∧ decode e.word = .ok i ∧ exec i (sample s e rest) = .next t := by
  unfold step at h
  split at h
  · next hi => exact .inl ⟨hi, by simpa using h.symm⟩
  · next e rest hi =>
    split at h
    · next i hd => exact .inr ⟨e, rest, i, hi, hd, h⟩
    · simp at h

/-! ### Runs -/

@[simp] theorem run_zero (s : State) : run 0 s = .next s := rfl

theorem run_succ_next (k : Nat) (s t : State) (h : step s = .next t) : run (k + 1) s = run k t := by
  simp only [run, h]

/-- A run of `k + 1` steps that ends in a state is a step and a run of `k`. -/
theorem run_succ_cases (k : Nat) (s u : State) (h : run (k + 1) s = .next u) :
    ∃ t, step s = .next t ∧ run k t = .next u := by
  cases hs : step s with
  | next t => exact ⟨t, rfl, by rwa [run_succ_next k s t hs] at h⟩
  | fault r => exact nomatch r
  | refused r => simp only [run, hs] at h; cases h

/-- The model's runs are the host's runs of its core. -/
theorem run_eq_core (k : Nat) : ∀ s : State, run k s = Host.Core.run Sys2Proof.core k s := by
  induction k with
  | zero => intro s; rfl
  | succ k ih =>
    intro s
    have hc : Sys2Proof.core.step s = step s := rfl
    simp only [run, Host.Core.run]
    rw [hc]
    cases step s <;> first | exact ih _ | rfl

/-- A run that keeps to an invariant of the steps ends in it. -/
theorem run_induction (P : State → Prop) (hstep : ∀ s t, P s → step s = .next t → P t) :
    ∀ (k : Nat) (s u : State), P s → run k s = .next u → P u := by
  intro k
  induction k with
  | zero => intro s u hs h; simp at h; exact h ▸ hs
  | succ k ih =>
    intro s u hs h
    obtain ⟨t, ht, hu⟩ := run_succ_cases k s u h
    exact ih t u (hstep s t hs ht) hu

end Sys2Proof.Machine
end

