-- ==== Sys2Proof/Laws/PerInstr.lean ====
section
/-! SUPPORT. Facts about every instruction as it is written, one lemma for each constructor. -/

namespace Sys2Proof.Laws

/-- The word of a well-formed instruction breaks no rule of R76. -/
def EncodesCleanly.Statement (i : Instr) : Prop := wellFormed i = true → offendingFields (encode i) = []

theorem offendingFields_command (c : Byte) : offendingFields (commandWord c) = [] := by
  simp [commandWord, offendingFields, fieldOffends, usesField, fieldIsZero]

theorem EncodesCleanly.tick (cd : Bool) : EncodesCleanly.Statement (.tick cd) := by
  intro _; simp [encode, offendingFields, fieldOffends, usesField, fieldIsZero]

theorem EncodesCleanly.regWrite (a : BitVec 6) (v : Byte) : EncodesCleanly.Statement (.regWrite a v) := by
  intro _; simp [encode, offendingFields, fieldOffends, usesField, fieldIsZero]

theorem EncodesCleanly.cmdReserved (c : Byte) : EncodesCleanly.Statement (.cmdReserved c) := fun _ => offendingFields_command c

theorem EncodesCleanly.nop : EncodesCleanly.Statement .nop := fun _ => offendingFields_command _

theorem EncodesCleanly.encode : EncodesCleanly.Statement .encode := fun _ => offendingFields_command _

theorem EncodesCleanly.decode : EncodesCleanly.Statement .decode := fun _ => offendingFields_command _

theorem EncodesCleanly.startTx : EncodesCleanly.Statement .startTx := fun _ => offendingFields_command _

theorem EncodesCleanly.startTxReply : EncodesCleanly.Statement .startTxReply := fun _ => offendingFields_command _

theorem EncodesCleanly.ackDone : EncodesCleanly.Statement .ackDone := fun _ => offendingFields_command _

theorem EncodesCleanly.rxAck : EncodesCleanly.Statement .rxAck := fun _ => offendingFields_command _

theorem EncodesCleanly.regRead (a : BitVec 6) : EncodesCleanly.Statement (.regRead a) := by
  intro _; simp [Sys2Proof.encode, offendingFields, fieldOffends, usesField, fieldIsZero]

theorem EncodesCleanly.txDone : EncodesCleanly.Statement .txDone := fun _ => by decide

theorem EncodesCleanly.rxStart : EncodesCleanly.Statement .rxStart := fun _ => by decide

theorem EncodesCleanly.rxDone (n : Byte) : EncodesCleanly.Statement (.rxDone n) := by
  intro _; simp [Sys2Proof.encode, offendingFields, fieldOffends, usesField, fieldIsZero]

theorem EncodesCleanly.reset : EncodesCleanly.Statement .reset := fun _ => by decide

end Sys2Proof.Laws
end

