-- ==== Sys2Proof/Tests/Slice0.lean ====
section
/-! SUPPORT. The model's own tests. Expected values are those of spec/95_test_vectors.md and of the rules' examples,
named beside each; meanings that read the configuration are run on `defaultCfg`, as the vectors are. Then, for each
statement of Certificates/Slice0 that has hypotheses, a witness that meets them. -/

namespace Sys2Proof.Tests

open Sys2Proof Sys2Proof.Machine

/-! ### Well-formedness: an ill-formed term for each check -/

theorem test_wf_regWrite_at_cmd : wellFormed (.regWrite 0x00#6 0x01#8) = false := by decide
theorem test_wf_regWrite_away : wellFormed (.regWrite 0x01#6 0x01#8) = true := by decide
theorem test_wf_reserved_named_code : wellFormed (.cmdReserved 0x06#8) = false := by decide
theorem test_wf_reserved_first_code : wellFormed (.cmdReserved 0x07#8) = true := by decide

/-! ### Words written out from the spec's encodings -/

theorem test_decode_tick0 : decode 0x00000000#32 = .ok (.tick false) := by decide
theorem test_decode_tick1 : decode 0x00002000#32 = .ok (.tick true) := by decide
theorem test_decode_regWrite : decode 0x1240C000#32 = .ok (.regWrite 0x09#6 0x03#8) := by decide
theorem test_decode_regWrite_fb15 : decode 0x17EAC000#32 = .ok (.regWrite 0x1F#6 0xAB#8) := by decide
theorem test_decode_reserved_first : decode 0x1001C000#32 = .ok (.cmdReserved 0x07#8) := by decide
theorem test_decode_reserved_last : decode 0x103FC000#32 = .ok (.cmdReserved 0xFF#8) := by decide
theorem test_decode_nop : decode 0x10000000#32 = .ok .nop := by decide
theorem test_decode_encode : decode 0x10004000#32 = .ok .encode := by decide
theorem test_decode_decode : decode 0x10008000#32 = .ok .decode := by decide
theorem test_decode_startTx : decode 0x1000C000#32 = .ok .startTx := by decide
theorem test_decode_startTxReply : decode 0x10010000#32 = .ok .startTxReply := by decide
theorem test_decode_ackDone : decode 0x10014000#32 = .ok .ackDone := by decide
theorem test_decode_rxAck : decode 0x10018000#32 = .ok .rxAck := by decide
theorem test_decode_regRead : decode 0x27800000#32 = .ok (.regRead 0x1E#6) := by decide
theorem test_decode_txDone : decode 0x30000000#32 = .ok .txDone := by decide
theorem test_decode_rxStart : decode 0x40000000#32 = .ok .rxStart := by decide
theorem test_decode_rxDone : decode 0x50000010#32 = .ok (.rxDone 16#8) := by decide
theorem test_decode_reset : decode 0x60000000#32 = .ok .reset := by decide

/-- KIND 7 is reserved (R75). -/
theorem test_decode_kind7 : decode 0x70000000#32 = .error ⟨7#4, [.kind]⟩ := by decide
/-- Bits 12:8 must be 0, and a TICK uses neither ADDR nor LEN (R74, R76). -/
theorem test_decode_tick_extra : decode 0x00400101#32 = .error ⟨0#4, [.addr, .reserved, .len]⟩ := by decide
/-- A HOST_READ has no DATA and no CD (R76). -/
theorem test_decode_read_extra : decode 0x20006000#32 = .error ⟨2#4, [.data, .cd]⟩ := by decide
/-- The host's probe reads the row REG_READ at address 0. -/
theorem test_decodeTableWord : decodeTableWord 32 0x20000000 = some (.regRead 0#6) := by decide

/-! ### The default checksum (95_test_vectors.md 2.1) -/

/-- V-CK-0: ASCII 123456789. -/
theorem test_crc_check_value :
    crcList [0x31#8, 0x32#8, 0x33#8, 0x34#8, 0x35#8, 0x36#8, 0x37#8, 0x38#8, 0x39#8] = 0x29B1#16 := by
  decide +kernel

/-- V-CK-3, the frame F1, with its trailer. -/
def f1 : Frame :=
  #v[0x01, 0x05, 0x03, 0x2A, 0xFA, 0x02, 0x03, 0x00, 0x00, 0x00, 0x00, 0x00, 0x00, 0x00, 0x9E, 0x7B]

/-- V-CK-4, the frame R2: a reply to type 0x03, id 0x2A. -/
def r2 : Frame :=
  #v[0x03, 0x2A, 0x01, 0x05, 0xFA, 0x07, 0x02, 0x32, 0x00, 0x00, 0x00, 0x00, 0x00, 0x00, 0xAA, 0x51]

/-- V-CK-6, the frame X4: the right type with the wrong id. -/
def x4 : Frame :=
  #v[0x03, 0x2B, 0x01, 0x05, 0xFA, 0x07, 0x02, 0x32, 0x00, 0x00, 0x00, 0x00, 0x00, 0x00, 0xEF, 0x32]

/-- V-CK-5, the frame B3: broadcast type. -/
def b3 : Frame :=
  #v[0x00, 0x00, 0x01, 0x05, 0xFA, 0x06, 0xA5, 0x5A, 0x5A, 0xA5, 0x00, 0x00, 0x00, 0x00, 0xFE, 0xC6]

/-! ### One step of each instruction -/

/-- The reset block in another transport state. -/
def blockIn (st : TransportState) : Block := { Block.reset with state := st }

/-- The reset machine in another transport state. -/
def stateIn (st : TransportState) : State := { State.reset with block := blockIn st }

/-- The identity of the vectors of 95_test_vectors.md 2.3. -/
def named (b : Block) : Block := { b with myType := 0x03#8, myId := 0x2A#8 }

/-- V-CD-1. -/
theorem test_encode : (encodeFrame defaultCfg { Block.reset with fb := (f1.set 14 0#8).set 15 0#8 }).fb = f1 := by
  decide +kernel
/-- V-CD-3: RESULT reads 0x0A. -/
theorem test_decode_bad_trailer :
    readReg (decodeFrame defaultCfg { Block.reset with fb := f1.set 15 0x7A#8 }) 0x02#6 = 0x0A#8 := by decide +kernel
/-- V-CD-8: the length is looked at first; RESULT reads 0x06. -/
theorem test_decode_short :
    readReg (decodeFrame defaultCfg { Block.reset with fb := f1.set 15 0x7A#8, flen := 15#8 }) 0x02#6 = 0x06#8 := by
  decide +kernel
/-- V-HR-2: bits 7:2 of IRQ_EN stay 0. -/
theorem test_regWrite_irqEn : readReg (writeReg Block.reset 0x06#6 0xFF#8) 0x06#6 = 0x03#8 := by decide
/-- V-HR-6: the last byte of FB. -/
theorem test_regWrite_fb15 : readReg (writeReg Block.reset 0x1F#6 0xAB#8) 0x1F#6 = 0xAB#8 := by decide
/-- 2.4: REPLY_RETRIES and FLEN in the reset state. -/
theorem test_regRead_reset : (readReg Block.reset 0x08#6, readReg Block.reset 0x0B#6) = (0x0A#8, 0x10#8) := by decide
/-- R168's corner of R40: TSTATE reads 0x0C in RxBusy with REPLY_REQ = 1 (V-TE-14). -/
theorem test_rxStart_tstate :
    readReg (receiveStart { blockIn .rxWait with replyReq := true }) 0x01#6 = 0x0C#8 := by decide
/-- V-TC-2. -/
theorem test_startTxReply :
    let b := startTransmit true 0x0A#8 100#32 Block.reset
    (readReg b 0x01#6, readReg b 0x0C#6, b.airTs) = (0x09#8, 10#8, 100#32) := by decide
/-- V-TC-1. -/
theorem test_startTx_busy : startTransmit false 0#8 7#32 (blockIn .rxWait) =
    { blockIn .rxWait with cmdResult := .busy } := by decide
/-- V-TE-3 and V-TE-4: 5000 ms is not yet the airway deadline, 5001 ms is. -/
theorem test_tick_airway :
    (tick defaultCfg true 5000#32 (blockIn .waitAirwayFree) = (blockIn .waitAirwayFree, none)) ∧
    readReg (tick defaultCfg true 5001#32 (blockIn .waitAirwayFree)).1 0x03#6 = 0x05#8 := by decide +kernel
/-- V-TE-6: the same across the wrap of the timebase. -/
theorem test_tick_wrap :
    let b := { blockIn .waitAirwayFree with airTs := 4294967000#32 }
    ((tick defaultCfg true 4704#32 b).1.state, (tick defaultCfg true 4705#32 b).1.state)
      = (.waitAirwayFree, .idle) := by decide +kernel
/-- V-TE-10. -/
theorem test_txDone_repeat :
    let r := transmitDone 9#32 { blockIn .txBusy with repeatsLeft := 2#8, txFrame := f1 }
    (r.1.repeatsLeft, r.2) = (1#8, some f1) := by decide +kernel
/-- V-TE-11. -/
theorem test_txDone_reply_wait :
    let r := transmitDone 300#32 { blockIn .txBusy with replyReq := true }
    (r.1.state, r.1.sendTs, r.2) = (.rxWait, 300#32, none) := by decide
/-- V-RX-14: COMP reads 0x09, and the reply stands in RXBUF. -/
theorem test_rxDone_reply :
    let b := receiveDone defaultCfg 16#8 r2 (named (blockIn .rxWait))
    (readReg b 0x03#6, b.rxBuf, b.state) = (0x09#8, r2, .idle) := by decide +kernel
/-- V-RX-15: a rejected frame leaves RxBusy. -/
theorem test_rxDone_wrong_id :
    receiveDone defaultCfg 16#8 x4 (named (blockIn .rxBusy)) = named (blockIn .rxBusy) := by decide +kernel
/-- P7 line 7: a TX_DONE after RESET. -/
theorem test_reset_then_txDone : transmitDone 3#32 State.reset.block = (State.reset.block, none) := by decide
/-- R84: the event word of `WR 0x09, 0x03`, and of the first write of LDFB14 in P1. -/
theorem test_assemble :
    (assemble [⟨none, .wr 0x09#6 0x03#8⟩, ⟨some 7#32, .wr 0x10#6 0x01#8⟩, ⟨none, lineStx⟩]).map
      (fun e => (e.word, e.now)) = [(0x1240C000#32, 0#32), (0x14004000#32, 7#32), (0x1000C000#32, 7#32)] := by decide
/-- R82: times, a comment, an expected value; a word that is not in the notation is refused by its line's number. -/
theorem test_parseProgram :
    parseProgram "@100 STX\nTICK 1 ; busy\nRD 0x08 -> 10\n" =
      .ok [⟨some 100#32, lineStx⟩, ⟨none, .tick true⟩, ⟨none, .rd 0x08#6 (some 10#8)⟩] ∧
    parseProgram "STX\nWR 0x40, 1" = .error 2 := by decide
/-- P3 line 24: the bytes of R2, in hexadecimal. -/
theorem test_parse_rxDone :
    parseLine "@1103 RXDONE 16, 03 2A 01 05 FA 07 02 32 00 00 00 00 00 00 AA 51".toList =
      some [⟨some 1103#32, .rxDone 16#8 r2⟩] := by decide
/-- The event words that 95_test_vectors.md 3 gives for this line. -/
theorem test_parse_ldfb14 :
    (parseLine "LDFB14 01 05 03 2A FA 02 03 00 00 00 00 00 00 00".toList).map
      (fun p => (assemble p).map (·.word)) =
    some [0x14004000#32, 0x14414000#32, 0x1480C000#32, 0x14CA8000#32, 0x153E8000#32, 0x15408000#32, 0x1580C000#32,
      0x15C00000#32, 0x16000000#32, 0x16400000#32, 0x16800000#32, 0x16C00000#32, 0x17000000#32, 0x17400000#32] := by
  decide
/-- R206: the radio before the host, the host before the tick. -/
theorem test_arbitrate :
    (arbitrate ⟨5#32, false, none, true, false, some (.read 0x03#6), some true⟩).map (·.word)
      = [0x30000000#32, 0x20C00000#32, 0x00002000#32] := by decide
/-- The host's probe runs as the first event after reset: a read of REPLY_RETRIES at 0x08. -/
theorem test_withFetchWord :
    step (State.reset.withFetchWord 32 0x22000000) =
      .next { State.reset with readData := some 0x0A#8 } := by rfl

/-! ### Witnesses for the statements that have hypotheses -/

/-- A pending event at time 0 with no RXDATA. -/
def ev (w : Word) : Event := { word := w, now := 0#32, rxData := zeroFrame }

/-- The reset machine in a transport state, with events pending. -/
def pending (st : TransportState) (ws : List Word) : State := { stateIn st with inbox := ws.map ev }

/-- A frame of the broadcast type with a right trailer, whatever the configuration. -/
def goodFrame : Frame :=
  setTrailer (zeroFrame.set 0 Config.cfg.broadcastType)
    (frameChecksum Config.cfg (zeroFrame.set 0 Config.cfg.broadcastType))

theorem goodFrame_accepted (b : Block) : frameAccepted b 16#8 goodFrame := by
  have h0 : goodFrame[0] = Config.cfg.broadcastType := by
    rw [goodFrame, setTrailer_getElem _ _ 0 (by decide)]; rfl
  have ht : Config.cfg.checksum (header goodFrame) = trailer goodFrame := by
    show frameChecksum Config.cfg goodFrame = _
    simp [goodFrame]
  exact ⟨rfl, ht, .inl h0⟩

theorem goodFrame_accept (b : Block) : accept Config.cfg b 16#8 goodFrame = true := by
  obtain ⟨_, h1, h2⟩ := goodFrame_accepted b
  have h2' : goodFrame[0] = Config.cfg.broadcastType := by
    rw [goodFrame, setTrailer_getElem _ _ 0 (by decide)]; rfl
  simp only [accept, addrMatch, frameChecksum, dstType, h2']
  simp [trailer, ckHi, ckLo, h1]

/-- A state in which `goodFrame` has just been received. -/
def received (st : TransportState) : State := { stateIn st with rxData := goodFrame }

/-- A frame whose trailer is wrong, whatever the configuration. -/
def badFrame : Frame := setTrailer zeroFrame (frameChecksum Config.cfg zeroFrame ^^^ 1#16)

theorem xor_one_ne (c : BitVec 16) : c ≠ c ^^^ 1#16 := by
  intro h
  have := congrArg (c ^^^ ·) h
  simp at this

theorem badFrame_trailer : Config.cfg.checksum (header badFrame) ≠ trailer badFrame := by
  show frameChecksum Config.cfg badFrame ≠ _
  simpa [badFrame] using xor_one_ne (frameChecksum Config.cfg zeroFrame)

theorem badFrame_rejected (b : Block) : ¬ frameAccepted b 16#8 badFrame := fun h => badFrame_trailer h.2.1

theorem witness_DecodeEncode : wellFormed (.regWrite 0x3F#6 0xFF#8) = true ∧ wellFormed (.cmdReserved 0x07#8) = true := by
  decide

theorem witness_EncodeDecode : decode 0x5000000F#32 = .ok (.rxDone 15#8) := by decide

theorem witness_MalformedWordsRefused :
    (pending .idle [0x70000000#32]).inbox = ev 0x70000000#32 :: [] ∧ fieldBreaksR76 0x70000000#32 .kind := by
  refine ⟨rfl, ?_⟩
  show 6 < _
  decide

theorem witness_TableRowSelected :
    decode 0x10004000#32 = .ok .encode ∧ rowMatches ⟨"CMD_RESERVED", 0x10000000#32, 0xFFC03FFF#32⟩ 0x10004000#32 = true ∧
    (0x01#6 ≠ 0#6) ∧ 7 ≤ (0x07#8).toNat := by decide

theorem witness_StepRunsDecodedEvent :
    (pending .idle [0x10000000#32]).inbox = ev 0x10000000#32 :: [] ∧ decode (ev 0x10000000#32).word = .ok .nop := by
  decide

theorem witness_NoEventNoChange : State.reset.inbox = [] := rfl

theorem witness_WellFormedRunNeverStops : wordsSpellEvents (pending .idle [0x10000000#32]) := by
  intro e he
  have : e = ev 0x10000000#32 := by simpa [pending] using he
  exact ⟨.nop, by rw [this]; decide⟩

theorem witness_EncodeResult : ∃ t, exec .encode State.reset = .next t := ⟨_, rfl⟩

theorem witness_DecodeResult :
    ({ Block.reset with flen := 15#8 }).flen ≠ 16#8 ∧
    (let b := { Block.reset with fb := badFrame }
     b.flen = 16#8 ∧ Config.cfg.checksum (Vector.ofFn fun i : Fin 14 => b.fb[i.val]) ≠ b.fb[14] ++ b.fb[15]) ∧
    (let b := { Block.reset with fb := goodFrame }
     b.flen = 16#8 ∧ Config.cfg.checksum (Vector.ofFn fun i : Fin 14 => b.fb[i.val]) = b.fb[14] ++ b.fb[15]) :=
  ⟨by decide, ⟨rfl, badFrame_trailer⟩, ⟨rfl, (goodFrame_accepted Block.reset).2.1⟩⟩

theorem witness_CodecRoundTrip : State.reset.block.flen = 16#8 := rfl

theorem witness_ChecksumSensitivity : State.reset.block.flen = 16#8 := rfl

theorem witness_RegisterWriteResult :
    (1 ≤ (0x01#6).toNat ∧ (0x05#6).toNat ≤ 5) ∧ (0x0C ≤ (0x0C#6).toNat ∧ (0x0F#6).toNat ≤ 0x0F) ∧
    0x20 ≤ (0x20#6).toNat ∧ 0x20 ≤ (0x3F#6).toNat ∧ (0x01#6 ≠ 0#6) := by decide

theorem witness_RegisterWriteReadBack :
    (0x07 ≤ (0x07#6).toNat ∧ (0x0B#6).toNat ≤ 0x0B) ∧ (0x10 ≤ (0x10#6).toNat ∧ (0x1F#6).toNat ≤ 0x1F) ∧
    (0x05#6).toNat ≤ 5 ∧ 0x0C ≤ (0x0C#6).toNat ∧ 0x20 ≤ (0x20#6).toNat ∧ (0x06#6 ≠ 0#6) ∧ (0x07#6 ≠ 0x06#6) := by decide

theorem witness_CommandDispatch :
    (∃ t, exec .txDone State.reset = .next t ∧ isCommand .txDone = false ∧ Instr.txDone ≠ .reset) ∧
    (∃ t, exec .startTx (stateIn .txBusy) = .next t ∧ isCommand .startTx = true) :=
  ⟨⟨_, rfl, rfl, by decide⟩, ⟨_, rfl, rfl⟩⟩

theorem witness_StartTxResult : (stateIn .txBusy).block.state ≠ .idle ∧ State.reset.block.state = .idle := by decide

theorem witness_StartTxReplyResult : (stateIn .rxBusy).block.state ≠ .idle ∧ State.reset.block.state = .idle := by decide

theorem witness_ReservedCommandResult : 0x07#8 ≤ 0x07#8 ∧ 0x07#8 ≤ 0xFF#8 := by decide

theorem witness_BusyStartChangesNothing :
    (stateIn .waitAirwayFree).block.state ≠ .idle ∧ (Instr.startTx = .startTx ∨ Instr.startTx = .startTxReply) := by
  decide

theorem witness_SlotHeldUntilCompletion :
    (∃ t, exec .txDone (stateIn .txBusy) = .next t ∧ (stateIn .txBusy).block.state ≠ .idle ∧ t.block.state = .idle) ∧
    (∃ t, exec .startTx State.reset = .next t ∧ State.reset.block.state = .idle ∧ t.block.state ≠ .idle) ∧
    (∃ t, exec .rxStart (stateIn .rxWait) = .next t ∧ (stateIn .rxWait).block.state ≠ .idle ∧ t.block.state ≠ .idle) :=
  ⟨⟨_, rfl, by decide, rfl⟩, ⟨_, rfl, rfl, by decide⟩, ⟨_, rfl, by decide, by decide⟩⟩

/-- One state and instruction for each clause of FlagWriters, in its order. -/
theorem witness_FlagWriters :
    (∃ t, exec .txDone (stateIn .txBusy) = .next t ∧ (stateIn .txBusy).block.done = false ∧ t.block.done = true) ∧
    (∃ s t, exec .ackDone s = .next t ∧ s.block.done = true ∧ t.block.done = false) ∧
    (∃ t, exec (.rxDone 16#8) (received .idle) = .next t ∧ (received .idle).block.rxv = false ∧ t.block.rxv = true) ∧
    (∃ s t, exec .rxAck s = .next t ∧ s.block.rxv = true ∧ t.block.rxv = false) ∧
    (∃ s t, exec (.rxDone 16#8) s = .next t ∧ s.block.rxOvf = false ∧ t.block.rxOvf = true) ∧
    (∃ s t, exec .rxAck s = .next t ∧ s.block.rxOvf = true ∧ t.block.rxOvf = false) ∧
    (∃ t, exec .startTxReply State.reset = .next t ∧ State.reset.block.replyReq = false ∧ t.block.replyReq = true) ∧
    (∃ s t, exec .reset s = .next t ∧ s.block.replyReq = true ∧ t.block.replyReq = false) ∧
    (∃ t, exec (.cmdReserved 0x80#8) State.reset = .next t ∧ t.block.cmdResult ≠ State.reset.block.cmdResult) ∧
    (∃ s t, exec .decode s = .next t ∧ t.block.decStatus ≠ s.block.decStatus) := by
  refine ⟨⟨_, rfl, rfl, rfl⟩, ⟨{ State.reset with block := { Block.reset with done := true } }, _, rfl, rfl, rfl⟩,
    ⟨_, rfl, rfl, ?_⟩, ⟨{ State.reset with block := { Block.reset with rxv := true } }, _, rfl, rfl, rfl⟩,
    ⟨{ received .idle with block := { Block.reset with rxv := true } }, _, rfl, rfl, ?_⟩,
    ⟨{ State.reset with block := { Block.reset with rxOvf := true } }, _, rfl, rfl, rfl⟩, ⟨_, rfl, rfl, rfl⟩,
    ⟨{ State.reset with block := { Block.reset with replyReq := true } }, _, rfl, rfl, rfl⟩, ⟨_, rfl, by decide⟩,
    ⟨{ State.reset with block := { Block.reset with flen := 0#8 } }, _, rfl, by decide⟩⟩
  · show (receiveDone Config.cfg 16#8 goodFrame (blockIn .idle)).rxv = true
    simp [receiveDone, blockIn, goodFrame_accept]
  · show (receiveDone Config.cfg 16#8 goodFrame { Block.reset with rxv := true }).rxOvf = true
    simp [receiveDone, Block.reset, goodFrame_accept]

theorem witness_TickIgnored : State.reset.block.state = .idle ∧ (stateIn .txBusy).block.state = .txBusy := by decide

theorem witness_TickClearChannel : (stateIn .waitAirwayFree).block.state = .waitAirwayFree := rfl

theorem witness_TickBusyChannel : (stateIn .waitAirwayFree).block.state = .waitAirwayFree := rfl

theorem witness_TickReplyWait : (stateIn .rxWait).block.state = .rxWait ∧ (stateIn .rxBusy).block.state = .rxBusy := by
  decide

/-- One state for each clause of TxDoneResult, in its order. -/
theorem witness_TxDoneResult :
    ({ blockIn .txBusy with repeatsLeft := 255#8 }).repeatsLeft ≠ 0#8 ∧
    ({ blockIn .txBusy with replyReq := true }).repeatsLeft = 0#8 ∧
    ({ blockIn .txBusy with replyReq := true }).replyReq = true ∧ (blockIn .txBusy).replyReq = false := by decide

theorem witness_TxDoneIgnored : (stateIn .rxBusy).block.state ≠ .txBusy := by decide

theorem witness_RxStartResult : (stateIn .rxWait).block.state = .rxWait ∧ (stateIn .rxBusy).block.state ≠ .rxWait := by
  decide

theorem witness_RxDoneResult :
    (stateIn .txBusy).block.state = .txBusy ∧ frameAccepted (received .idle).block 16#8 (received .idle).rxData ∧
    frameAccepted (received .rxWait).block 16#8 (received .rxWait).rxData ∧
    ¬ frameAccepted Block.reset 15#8 zeroFrame :=
  ⟨rfl, goodFrame_accepted _, goodFrame_accepted _, fun h => by simp [frameAccepted] at h⟩

theorem witness_SilentDrops :
    ¬ frameAccepted Block.reset 16#8 badFrame ∧ (stateIn .txBusy).block.state = .txBusy ∧
    State.reset.block.state ≠ .txBusy ∧ State.reset.block.state ≠ .rxWait :=
  ⟨badFrame_rejected _, rfl, by decide, by decide⟩

theorem witness_SendsWaitForTxDone :
    (∃ t, exec (.tick false) (stateIn .waitAirwayFree) = .next t ∧ t.sent = some zeroFrame) ∧
    (let s := { stateIn .txBusy with block := { blockIn .txBusy with repeatsLeft := 1#8 } }
     ∃ t, exec .txDone s = .next t ∧ t.sent = some zeroFrame) :=
  ⟨⟨_, rfl, rfl⟩, ⟨_, rfl, rfl⟩⟩

theorem witness_ProgramAssembles :
    let p : List TimedLine := [⟨some 7#32, .rxDone 16#8 r2⟩, ⟨none, lineStx⟩]
    p[0]? = some ⟨some 7#32, .rxDone 16#8 r2⟩ ∧ p[1]? = some ⟨none, lineStx⟩ ∧
      ∃ d, (assemble p)[0]? = some d ∧ d.now = 7#32 := ⟨rfl, rfl, _, rfl, rfl⟩

theorem witness_StepLowersRank :
    (pending .txBusy [0x30000000#32]).block.state ≠ .idle ∧ due (pending .txBusy [0x30000000#32]) = true ∧
      ∃ t, step (pending .txBusy [0x30000000#32]) = .next t := ⟨by decide, rfl, _, rfl⟩

theorem witness_TransitionTable :
    (∃ t, exec .startTx State.reset = .next t ∧ t.block.state ≠ State.reset.block.state) ∧
    (∃ t, exec (.tick false) (stateIn .waitAirwayFree) = .next t ∧ t.sent ≠ none) :=
  ⟨⟨_, rfl, by decide⟩, ⟨_, rfl, by decide⟩⟩

theorem witness_CompletionCauses :
    ∃ t, exec .txDone (stateIn .txBusy) = .next t ∧ Instr.txDone ≠ .reset ∧ recordChanged (stateIn .txBusy) t ∧
      (stateIn .txBusy).block.state ≠ .idle ∧ t.block.state = .idle :=
  ⟨_, rfl, by decide, .inl ⟨rfl, rfl⟩, by decide, rfl⟩

theorem witness_AttemptSendCount :
    (stateIn .waitAirwayFree).block.state = .waitAirwayFree ∧
    (let s := { pending .txBusy [0x30000000#32, 0x30000000#32] with
                block := { blockIn .txBusy with repeatsLeft := 1#8 } }
     s.block.state = .txBusy ∧ (∀ e ∈ s.inbox, decode e.word ≠ .ok .reset) ∧ sendsUntilSent 3 s = some 1) := by
  refine ⟨rfl, rfl, ?_, by decide +kernel⟩
  intro e he
  have : e = ev 0x30000000#32 := by simpa [pending] using he
  rw [this]; decide

theorem witness_AttemptBound : State.reset.block.state = .idle := rfl

theorem witness_TxBusyHasNoTimeout :
    ∃ t, (∀ e ∈ (pending .txBusy [0x00000000#32]).inbox, decode e.word ≠ .ok .txDone ∧ decode e.word ≠ .ok .reset) ∧
      run 1 (pending .txBusy [0x00000000#32]) = .next t := by
  refine ⟨_, ?_, rfl⟩
  intro e he
  have : e = ev 0x00000000#32 := by simpa [pending] using he
  rw [this]; decide

theorem witness_StepKeepsInvariants : ∃ t, Inv (blockIn .waitAirwayFree) ∧ step (stateIn .waitAirwayFree) = .next t :=
  ⟨_, ⟨by decide, by decide, by decide, fun h => (nomatch h), by decide, by decide, by decide, by decide⟩, rfl⟩

theorem witness_ReachableStatesHaveInvariants :
    ∃ s, run 2 { State.reset with inbox := [ev 0x10010000#32, ev 0x00000000#32] } = .next s ∧ s.block.state = .txBusy :=
  ⟨_, rfl, rfl⟩

theorem witness_ResetResult : (⟨0#32, true, none, true, false, none, none⟩ : Cycle).reset = true := rfl

theorem witness_SameCycleOrder :
    (⟨0#32, false, some (16#8, r2), false, false, none, none⟩ : Cycle).reset = false ∧
    ({ word := encode (.rxDone 16#8), now := 0#32, rxData := r2 } : Event) ∈
      arbitrate ⟨0#32, false, some (16#8, r2), false, false, none, none⟩ ∧
    decode (encode (.rxDone 16#8)) = .ok (.rxDone 16#8) ∧
    (⟨0#32, true, none, true, false, none, none⟩ : Cycle).reset = true ∧
    (⟨0#32, false, none, true, true, some (.write 0x00#6 0x03#8), some false⟩ : Cycle).host =
      some (.write 0x00#6 0x03#8) := by decide

theorem witness_TagNeverInterpreted :
    hideTags State.reset = hideTags { State.reset with block := { Block.reset with txTag := 0x5A#8, tag := 0x11#8 } } := by
  rfl

theorem witness_PayloadNeverInterpreted :
    ∃ D D' : Frame, D ≠ D' ∧ D[0] = D'[0] ∧ D[1] = D'[1] ∧
      (Config.cfg.checksum (header D) = trailer D ↔ Config.cfg.checksum (header D') = trailer D') := by
  let D := setTrailer zeroFrame (frameChecksum Config.cfg zeroFrame)
  let D' := setTrailer (zeroFrame.set 5 1#8) (frameChecksum Config.cfg (zeroFrame.set 5 1#8))
  have e (i : Nat) (h : i < 14) : D[i] = zeroFrame[i] := setTrailer_getElem _ _ i h
  have e' (i : Nat) (h : i < 14) : D'[i] = (zeroFrame.set 5 1#8)[i] := setTrailer_getElem _ _ i h
  have k : Config.cfg.checksum (header D) = trailer D := by show frameChecksum Config.cfg D = _; simp [D]
  have k' : Config.cfg.checksum (header D') = trailer D' := by show frameChecksum Config.cfg D' = _; simp [D']
  refine ⟨D, D', ?_, by rw [e 0 (by decide), e' 0 (by decide)]; rfl, by rw [e 1 (by decide), e' 1 (by decide)]; rfl,
    iff_of_true k k'⟩
  intro h
  have h5 : D[5] = D'[5] := by rw [h]
  rw [e 5 (by decide), e' 5 (by decide)] at h5
  exact absurd h5 (by decide)

theorem witness_TearingIsDetected :
    let s := { pending .idle [0x28000000#32, 0x28400000#32] with block := { Block.reset with rxv := true } }
    ∃ t u, s.block.rxv = true ∧ (∀ e ∈ s.inbox, decode e.word ≠ .ok .rxAck ∧ decode e.word ≠ .ok .reset) ∧
      run 1 s = .next t ∧ run 1 t = .next u ∧ u.block.rxOvf = false := by
  refine ⟨_, _, rfl, ?_, rfl, rfl, rfl⟩
  intro e he
  have : e = ev 0x28000000#32 ∨ e = ev 0x28400000#32 := by simpa [pending] using he
  rcases this with h | h <;> rw [h] <;> decide

theorem witness_PreparedFrameIsSent : State.reset.block.state = .idle := rfl

/-- The broadcast frame B3 under the defaults, and the all-zero frame where the broadcast type is another. -/
theorem witness_ResetIdentityFilter :
    accept defaultCfg State.reset.block 16#8 b3 = true ∧
    (let cfg := { defaultCfg with broadcastType := 0xFF#8 }
     let D := setTrailer zeroFrame 0xA96A#16
     accept cfg State.reset.block 16#8 D = true ∧ D[0] ≠ cfg.broadcastType) := by decide +kernel

end Sys2Proof.Tests
end

section
/-! The statements of 00_scope.md: what one step does with the oldest pending event. -/

namespace Sys2Proof.Machine

/-- The forward equation of `step` at an event whose word decodes, where `step_cases` is the inversion (R12, R160). -/
theorem step_of_decode_ok {s : State} {e : Event} {rest : List Event} {i : Instr}
    (hi : s.inbox = e :: rest) (hd : decode e.word = .ok i) : step s = exec i (sample s e rest) := by
  unfold step
  simp only [hi, hd]

/-- Settles O6: the state named there, with the event taken and its operands sampled, is `sample s e rest`. -/
theorem stepRunsDecodedEvent : Obligations.StepRunsDecodedEvent := by
  unfold Obligations.StepRunsDecodedEvent
  intro s e rest i hi hd
  exact step_of_decode_ok hi hd

end Sys2Proof.Machine
end

section
/-! The statements of 10_state.md: the step without an event (R22), who writes each status flag (R41), the invariants
(R42), and the continuation tags, which the block never interprets (R26, R36). -/

namespace Sys2Proof.Machine

/-! ### The forward equations of `step` where no instruction runs -/

/-- With no event pending, a step only clears the outputs of the step before. -/
theorem step_of_inbox_nil {s : State} (hi : s.inbox = []) : step s = .next (quiet s s.block) := by
  unfold step
  simp only [hi]

/-- A word that spells no event is refused with its KIND and its fields that offend (R76). -/
theorem step_of_decode_error {s : State} {e : Event} {rest : List Event} {m : Malformed}
    (hi : s.inbox = e :: rest) (hd : decode e.word = .error m) :
    step s = .refused (.malformedEvent m.kind m.fields) := by
  unfold step
  simp only [hi, hd]

/-- Settles O7. -/
theorem noEventNoChange : Obligations.NoEventNoChange := by
  unfold Obligations.NoEventNoChange
  intro s hi
  exact step_of_inbox_nil hi

/-! ### The invariants of R42 -/

/-- The fields that the invariants of R42 speak of. -/
def invFields (b : Block) : TransportState × Bool × Byte × Byte × Bool × Bool × Result × Bool :=
  (b.state, b.replyReq, b.retriesLeft, b.repeatsLeft, b.rxOvf, b.rxv, b.compResult, b.compReply)

/-- The invariants depend on the fields of `invFields` alone. -/
theorem Inv.congr {b c : Block} (h : Inv b) (hf : invFields c = invFields b) : Inv c := by
  simp only [invFields, Prod.mk.injEq] at hf
  obtain ⟨hstate, hreply, hretries, hrepeats, hovf, hrxv, hresult, hrep⟩ := hf
  constructor
  · rw [hstate]; exact h.state_code
  · rw [hstate, hreply, hretries, hrepeats]; exact h.idle_slot
  · rw [hstate, hreply, hrepeats]; exact h.reply_wait
  · rw [hstate, hrepeats]; exact h.repeats_bound
  · rw [hreply, hretries]; exact h.retries_need_reply
  · rw [hovf, hrxv]; exact h.overflow_valid
  · rw [hresult]; exact h.result_code
  · rw [hrep, hresult]; exact h.reply_success

/-- A register write reaches host registers and FB only, none of which R42 speaks of. -/
theorem invFields_writeReg (b : Block) (a : BitVec 6) (v : Byte) : invFields (writeReg b a v) = invFields b := by
  obtain ⟨-, e⟩ | ⟨-, e⟩ | ⟨-, e⟩ | ⟨-, e⟩ | ⟨-, e⟩ | ⟨-, e⟩ | ⟨_, -, e⟩ | ⟨-, e⟩ := writeReg_cases b a v <;>
    rw [e] <;> rfl

theorem stateCode_le_four (st : TransportState) : (stateCode st).toNat ≤ 4 := by
  cases st <;> decide

/-- The first send of an attempt leaves `TX_REPEAT - 1` repeats; R8 keeps this from wrapping. -/
theorem txRepeat_pred_add_one : (Config.cfg.txRepeat - 1#8).toNat + 1 = Config.cfg.txRepeat.toNat := by
  have hpos : 1#8 ≤ Config.cfg.txRepeat := Config.cfg_legal.txRepeat_pos
  bv_omega

theorem Inv.resetOf (cfg : Cfg) : Inv (Block.resetOf cfg) where
  state_code := stateCode_le_four _
  idle_slot := by simp
  reply_wait := by simp
  repeats_bound := by simp
  retries_need_reply := by simp
  overflow_valid := by simp
  result_code := by simp
  reply_success := by simp

/-- Completion empties the slot; its result is one of the two that R42 allows, and a reply goes with SUCCESS. -/
theorem Inv.complete {b : Block} (h : Inv b) {r : Result} {rep : Bool} (hr : r = .success ∨ r = .failure)
    (hrep : rep = true → r = .success) : Inv (complete r rep b) where
  state_code := stateCode_le_four _
  idle_slot := by simp
  reply_wait := by simp
  repeats_bound := by simp
  retries_need_reply := by simp
  overflow_valid := by simpa using h.overflow_valid
  result_code := by simpa using hr
  reply_success := by simpa using hrep

/-- Forwarding sets RXV, whatever it does to RX_OVF. -/
theorem Inv.forward {b : Block} (h : Inv b) (D : Frame) : Inv (forward D b) :=
  { h with overflow_valid := fun _ => forward_rxv D b }

/-- A start command without a reply request must load no retries. -/
theorem Inv.startTransmit {b : Block} (h : Inv b) {reply : Bool} {n : Byte} (now : Word)
    (hn : reply = false → n = 0#8) : Inv (startTransmit reply n now b) := by
  by_cases hb : b.state = .idle
  · rw [startTransmit_idle reply n now b hb]
    exact { h with
      state_code := stateCode_le_four _
      idle_slot := by simp
      reply_wait := by simp
      repeats_bound := by simp
      retries_need_reply := hn }
  · rw [startTransmit_busy reply n now b hb]
    exact h.congr rfl

theorem Inv.tick {b : Block} (h : Inv b) (cd : Bool) (now : Word) : Inv (tick Config.cfg cd now b).1 := by
  obtain e | ⟨-, -, e⟩ | ⟨-, -, -, e⟩ | ⟨hwait, -, -, e⟩ | ⟨-, -, -, e⟩ := tick_cases Config.cfg cd now b <;> rw [e]
  · exact h
  · exact { h with
      state_code := stateCode_le_four _
      idle_slot := by simp
      reply_wait := by simp
      repeats_bound := fun _ => txRepeat_pred_add_one.le }
  · exact h.complete (.inr rfl) (by simp)
  · obtain ⟨hreply, -⟩ := h.reply_wait hwait
    exact { h with
      state_code := stateCode_le_four _
      idle_slot := by simp
      reply_wait := by simp
      repeats_bound := by simp
      retries_need_reply := by simp [hreply] }
  · exact h.complete (.inr rfl) (by simp)

theorem Inv.transmitDone {b : Block} (h : Inv b) (now : Word) : Inv (transmitDone now b).1 := by
  obtain ⟨-, e⟩ | ⟨hbusy, hleft, e⟩ | ⟨hbusy, hzero, hreply, e⟩ | ⟨-, -, -, e⟩ := transmitDone_cases now b <;> rw [e]
  · exact h
  · have hbound := h.repeats_bound hbusy
    exact { h with
      idle_slot := by simp [hbusy]
      reply_wait := by simp [hbusy]
      repeats_bound := fun _ => by simp only; bv_omega }
  · exact { h with
      state_code := stateCode_le_four _
      idle_slot := by simp
      reply_wait := fun _ => ⟨hreply, hzero⟩
      repeats_bound := by simp }
  · exact h.complete (.inl rfl) (by simp)

theorem Inv.receiveStart {b : Block} (h : Inv b) : Inv (receiveStart b) := by
  obtain ⟨-, e⟩ | ⟨hwait, e⟩ := receiveStart_cases b <;> rw [e]
  · exact h
  · exact { h with
      state_code := stateCode_le_four _
      idle_slot := by simp
      reply_wait := fun _ => h.reply_wait (.inl hwait)
      repeats_bound := by simp }

theorem Inv.receiveDone {b : Block} (h : Inv b) (cfg : Cfg) (len : Byte) (D : Frame) :
    Inv (receiveDone cfg len D b) := by
  obtain ⟨-, e⟩ | ⟨-, -, e⟩ | ⟨-, -, e⟩ := receiveDone_cases cfg len D b <;> rw [e]
  · exact h
  · exact h.forward D
  · exact (h.forward D).complete (.inl rfl) (fun _ => rfl)

/-- Every instruction keeps the invariants, from every state that has them. -/
theorem exec_keeps_inv {i : Instr} {s t : State} (h : Inv s.block) (hx : exec i s = .next t) : Inv t.block := by
  cases i <;> cases hx
  case tick cd => exact h.tick cd s.now
  case regWrite a v => exact h.congr (invFields_writeReg s.block a v)
  case cmdReserved | nop | encode | decode | ackDone | regRead => exact h.congr rfl
  case startTx => exact h.startTransmit s.now (fun _ => rfl)
  case startTxReply => exact h.startTransmit s.now (by simp)
  case rxAck => exact { h with overflow_valid := by simp }
  case txDone => exact h.transmitDone s.now
  case rxStart => exact h.receiveStart
  case rxDone len => exact h.receiveDone Config.cfg len s.rxData
  case reset => exact Inv.resetOf Config.cfg

/-- Settles O51: the step without an event keeps the block, and every other step runs an instruction. -/
theorem stepKeepsInvariants : Obligations.StepKeepsInvariants := by
  unfold Obligations.StepKeepsInvariants
  intro s t h hstep
  obtain ⟨-, rfl⟩ | ⟨e, rest, i, -, -, hx⟩ := step_cases s t hstep
  · exact h
  · exact exec_keeps_inv (s := sample s e rest) h hx

/-- Settles O52. -/
theorem resetHasInvariants : Obligations.ResetHasInvariants := by
  unfold Obligations.ResetHasInvariants
  exact Inv.resetOf Config.cfg

/-- Settles O53, by induction on the run: O52 at its start, O51 at each step. -/
theorem reachableStatesHaveInvariants : Obligations.ReachableStatesHaveInvariants := by
  unfold Obligations.ReachableStatesHaveInvariants
  intro k events s hrun
  have hinit : Inv ({ State.reset with inbox := events } : State).block := resetHasInvariants
  exact run_induction (fun s => Inv s.block) stepKeepsInvariants k _ s hinit hrun

/-! ### Who writes each status flag (R41)

Each operation leaves most of the flags, unconditionally. What it does to the others is one lemma for each flag. -/

@[simp] theorem writeReg_flags (b : Block) (a : BitVec 6) (v : Byte) :
    (writeReg b a v).done = b.done ∧ (writeReg b a v).rxv = b.rxv ∧ (writeReg b a v).rxOvf = b.rxOvf ∧
    (writeReg b a v).replyReq = b.replyReq ∧ (writeReg b a v).cmdResult = b.cmdResult ∧
    (writeReg b a v).decStatus = b.decStatus := by
  obtain ⟨-, e⟩ | ⟨-, e⟩ | ⟨-, e⟩ | ⟨-, e⟩ | ⟨-, e⟩ | ⟨-, e⟩ | ⟨_, -, e⟩ | ⟨-, e⟩ := writeReg_cases b a v <;>
    simp [e]

@[simp] theorem encodeFrame_flags (cfg : Cfg) (b : Block) :
    (encodeFrame cfg b).done = b.done ∧ (encodeFrame cfg b).rxv = b.rxv ∧ (encodeFrame cfg b).rxOvf = b.rxOvf ∧
    (encodeFrame cfg b).replyReq = b.replyReq ∧ (encodeFrame cfg b).decStatus = b.decStatus :=
  ⟨rfl, rfl, rfl, rfl, rfl⟩

@[simp] theorem decodeFrame_flags (cfg : Cfg) (b : Block) :
    (decodeFrame cfg b).done = b.done ∧ (decodeFrame cfg b).rxv = b.rxv ∧ (decodeFrame cfg b).rxOvf = b.rxOvf ∧
    (decodeFrame cfg b).replyReq = b.replyReq :=
  ⟨rfl, rfl, rfl, rfl⟩

@[simp] theorem startTransmit_flags (reply : Bool) (n : Byte) (now : Word) (b : Block) :
    (startTransmit reply n now b).done = b.done ∧ (startTransmit reply n now b).rxv = b.rxv ∧
    (startTransmit reply n now b).rxOvf = b.rxOvf ∧ (startTransmit reply n now b).decStatus = b.decStatus := by
  by_cases hb : b.state = .idle
  · simp [startTransmit_idle reply n now b hb]
  · simp [startTransmit_busy reply n now b hb]

/-- A start command that is turned away keeps REPLY_REQ. -/
theorem startTransmit_replyReq (reply : Bool) (n : Byte) (now : Word) (b : Block) :
    (startTransmit reply n now b).replyReq = b.replyReq ∨ (startTransmit reply n now b).replyReq = reply := by
  by_cases hb : b.state = .idle
  · simp [startTransmit_idle reply n now b hb]
  · simp [startTransmit_busy reply n now b hb]

@[simp] theorem tick_flags (cfg : Cfg) (cd : Bool) (now : Word) (b : Block) :
    (tick cfg cd now b).1.rxv = b.rxv ∧ (tick cfg cd now b).1.rxOvf = b.rxOvf ∧
    (tick cfg cd now b).1.cmdResult = b.cmdResult ∧ (tick cfg cd now b).1.decStatus = b.decStatus := by
  obtain e | ⟨-, -, e⟩ | ⟨-, -, -, e⟩ | ⟨-, -, -, e⟩ | ⟨-, -, -, e⟩ := tick_cases cfg cd now b <;> simp [e]

@[simp] theorem transmitDone_flags (now : Word) (b : Block) :
    (transmitDone now b).1.rxv = b.rxv ∧ (transmitDone now b).1.rxOvf = b.rxOvf ∧
    (transmitDone now b).1.cmdResult = b.cmdResult ∧ (transmitDone now b).1.decStatus = b.decStatus := by
  obtain ⟨-, e⟩ | ⟨-, -, e⟩ | ⟨-, -, -, e⟩ | ⟨-, -, -, e⟩ := transmitDone_cases now b <;> simp [e]

@[simp] theorem receiveStart_flags (b : Block) :
    (receiveStart b).done = b.done ∧ (receiveStart b).rxv = b.rxv ∧ (receiveStart b).rxOvf = b.rxOvf ∧
    (receiveStart b).replyReq = b.replyReq ∧ (receiveStart b).cmdResult = b.cmdResult ∧
    (receiveStart b).decStatus = b.decStatus := by
  obtain ⟨-, e⟩ | ⟨-, e⟩ := receiveStart_cases b <;> simp [e]

@[simp] theorem receiveDone_flags (cfg : Cfg) (len : Byte) (D : Frame) (b : Block) :
    (receiveDone cfg len D b).cmdResult = b.cmdResult ∧ (receiveDone cfg len D b).decStatus = b.decStatus := by
  obtain ⟨-, e⟩ | ⟨-, -, e⟩ | ⟨-, -, e⟩ := receiveDone_cases cfg len D b <;> simp [e]

/-- RX_DONE leaves the receive side as it was, or has forwarded the frame (R113). -/
theorem receiveDone_rx_cases (cfg : Cfg) (len : Byte) (D : Frame) (b : Block) :
    ((receiveDone cfg len D b).rxv = b.rxv ∧ (receiveDone cfg len D b).rxOvf = b.rxOvf) ∨
    ((receiveDone cfg len D b).rxv = true ∧ (receiveDone cfg len D b).rxOvf = (b.rxOvf || b.rxv) ∧
      (receiveDone cfg len D b).rxBuf = D) := by
  obtain ⟨-, e⟩ | ⟨-, -, e⟩ | ⟨-, -, e⟩ := receiveDone_cases cfg len D b <;> simp [e]

/-- From `b` to `c` a completion happened, as far as the flags show it (R170). -/
def completesFlags (b c : Block) : Prop :=
  b.state ≠ .idle ∧ c.state = .idle ∧ c.done = true ∧ c.replyReq = false

theorem tick_done_replyReq (cfg : Cfg) (cd : Bool) (now : Word) (b : Block) :
    ((tick cfg cd now b).1.done = b.done ∧ (tick cfg cd now b).1.replyReq = b.replyReq) ∨
    completesFlags b (tick cfg cd now b).1 := by
  obtain e | ⟨-, -, e⟩ | ⟨hs, -, -, e⟩ | ⟨-, -, -, e⟩ | ⟨hs, -, -, e⟩ := tick_cases cfg cd now b <;> rw [e]
  · exact .inl ⟨rfl, rfl⟩
  · exact .inl ⟨rfl, rfl⟩
  · exact .inr ⟨by simp [hs], rfl, rfl, rfl⟩
  · exact .inl ⟨rfl, rfl⟩
  · exact .inr ⟨by rcases hs with hs | hs <;> simp [hs], rfl, rfl, rfl⟩

theorem transmitDone_done_replyReq (now : Word) (b : Block) :
    ((transmitDone now b).1.done = b.done ∧ (transmitDone now b).1.replyReq = b.replyReq) ∨
    completesFlags b (transmitDone now b).1 := by
  obtain ⟨-, e⟩ | ⟨-, -, e⟩ | ⟨-, -, -, e⟩ | ⟨hs, -, -, e⟩ := transmitDone_cases now b <;> rw [e]
  · exact .inl ⟨rfl, rfl⟩
  · exact .inl ⟨rfl, rfl⟩
  · exact .inl ⟨rfl, rfl⟩
  · exact .inr ⟨by simp [hs], rfl, rfl, rfl⟩

theorem receiveDone_done_replyReq (cfg : Cfg) (len : Byte) (D : Frame) (b : Block) :
    ((receiveDone cfg len D b).done = b.done ∧ (receiveDone cfg len D b).replyReq = b.replyReq) ∨
    completesFlags b (receiveDone cfg len D b) := by
  obtain ⟨-, e⟩ | ⟨-, -, e⟩ | ⟨hs, -, e⟩ := receiveDone_cases cfg len D b <;> rw [e]
  · exact .inl ⟨rfl, rfl⟩
  · exact .inl ⟨rfl, rfl⟩
  · exact .inr ⟨by rcases hs with hs | hs <;> simp [hs], rfl, rfl, rfl⟩

section
variable {i : Instr} {s t : State}

/-- DONE is kept, set by a completion, or cleared by ACK_DONE or RESET. -/
theorem exec_done_cases (hx : exec i s = .next t) :
    t.block.done = s.block.done ∨ completesFlags s.block t.block ∨
    (t.block.done = false ∧ (i = .ackDone ∨ i = .reset)) := by
  cases i <;> cases hx
  case tick cd => exact (tick_done_replyReq Config.cfg cd s.now s.block).imp And.left .inl
  case txDone => exact (transmitDone_done_replyReq s.now s.block).imp And.left .inl
  case rxDone len => exact (receiveDone_done_replyReq Config.cfg len s.rxData s.block).imp And.left .inl
  case ackDone | reset => exact .inr (.inr (by simp))
  all_goals exact .inl (by simp)

/-- RXV is kept, set with the frame in RXBUF by RX_DONE, or cleared by RX_ACK or RESET. -/
theorem exec_rxv_cases (hx : exec i s = .next t) :
    t.block.rxv = s.block.rxv ∨ (t.block.rxv = true ∧ ∃ len, i = .rxDone len ∧ t.block.rxBuf = s.rxData) ∨
    (t.block.rxv = false ∧ (i = .rxAck ∨ i = .reset)) := by
  cases i <;> cases hx
  case rxDone len =>
    obtain ⟨hrxv, -⟩ | ⟨hrxv, -, hbuf⟩ := receiveDone_rx_cases Config.cfg len s.rxData s.block
    · exact .inl hrxv
    · exact .inr (.inl ⟨hrxv, len, rfl, hbuf⟩)
  case rxAck | reset => exact .inr (.inr (by simp))
  all_goals exact .inl (by simp)

/-- RX_OVF is kept, joined with RXV by RX_DONE, or cleared by RX_ACK or RESET. -/
theorem exec_rxOvf_cases (hx : exec i s = .next t) :
    t.block.rxOvf = s.block.rxOvf ∨ (t.block.rxOvf = (s.block.rxOvf || s.block.rxv) ∧ ∃ len, i = .rxDone len) ∨
    (t.block.rxOvf = false ∧ (i = .rxAck ∨ i = .reset)) := by
  cases i <;> cases hx
  case rxDone len =>
    obtain ⟨-, hovf⟩ | ⟨-, hovf, -⟩ := receiveDone_rx_cases Config.cfg len s.rxData s.block
    · exact .inl hovf
    · exact .inr (.inl ⟨hovf, len, rfl⟩)
  case rxAck | reset => exact .inr (.inr (by simp))
  all_goals exact .inl (by simp)

/-- REPLY_REQ is kept, loaded by a start command, or cleared by a completion or RESET. -/
theorem exec_replyReq_cases (hx : exec i s = .next t) :
    t.block.replyReq = s.block.replyReq ∨ (t.block.replyReq = true ∧ i = .startTxReply) ∨
    (t.block.replyReq = false ∧ (i = .startTx ∨ i = .reset ∨ completesFlags s.block t.block)) := by
  have hcompl : completesFlags s.block t.block →
      t.block.replyReq = false ∧ (i = .startTx ∨ i = .reset ∨ completesFlags s.block t.block) :=
    fun ⟨hs, ht, hdone, hreply⟩ => ⟨hreply, .inr (.inr ⟨hs, ht, hdone, hreply⟩)⟩
  cases i <;> cases hx
  case tick cd => exact (tick_done_replyReq Config.cfg cd s.now s.block).imp And.right fun h => .inr (hcompl h)
  case txDone => exact (transmitDone_done_replyReq s.now s.block).imp And.right fun h => .inr (hcompl h)
  case rxDone len =>
    exact (receiveDone_done_replyReq Config.cfg len s.rxData s.block).imp And.right fun h => .inr (hcompl h)
  case startTx =>
    exact (startTransmit_replyReq false 0#8 s.now s.block).imp_right fun h => .inr ⟨h, .inl rfl⟩
  case startTxReply =>
    exact (startTransmit_replyReq true s.block.replyRetries s.now s.block).imp_right fun h => .inl ⟨h, rfl⟩
  case reset => exact .inr (.inr (by simp))
  all_goals exact .inl (by simp)

/-- CMD_RESULT belongs to the commands, all of them, RESET apart. -/
theorem exec_cmdResult_cases (hx : exec i s = .next t) :
    t.block.cmdResult = s.block.cmdResult ∨ isCommand i = true ∨ i = .reset := by
  cases i <;> cases hx
  case tick | regWrite | regRead | txDone | rxStart | rxDone => exact .inl (by simp)
  case reset => exact .inr (.inr rfl)
  all_goals exact .inr (.inl rfl)

/-- DEC_STATUS belongs to DECODE alone, RESET apart. -/
theorem exec_decStatus_cases (hx : exec i s = .next t) :
    t.block.decStatus = s.block.decStatus ∨ i = .decode ∨ i = .reset := by
  cases i <;> cases hx
  case decode | reset => exact .inr (by simp)
  all_goals exact .inl (by simp)

end

/-- Settles O32: each clause is read off the cases of its flag. -/
theorem flagWriters : Obligations.FlagWriters := by
  unfold Obligations.FlagWriters
  intro i s t hx
  refine ⟨fun h0 h1 => ?_, fun h1 h0 => ?_, fun h0 h1 => ?_, fun h1 h0 => ?_, fun h0 h1 => ?_, fun h1 h0 => ?_,
    fun h0 h1 => ?_, fun h1 h0 => ?_, (exec_cmdResult_cases hx).resolve_left, (exec_decStatus_cases hx).resolve_left⟩
  · obtain e | ⟨hs, ht, -⟩ | ⟨e, -⟩ := exec_done_cases hx <;> simp_all
  · obtain e | ⟨-, -, e, -⟩ | ⟨-, hi⟩ := exec_done_cases hx <;> simp_all
  · obtain e | ⟨-, hi⟩ | ⟨e, -⟩ := exec_rxv_cases hx <;> simp_all
  · obtain e | ⟨e, -⟩ | ⟨-, hi⟩ := exec_rxv_cases hx <;> simp_all
  · obtain e | ⟨e, hi⟩ | ⟨e, -⟩ := exec_rxOvf_cases hx <;> simp_all
  · obtain e | ⟨e, -⟩ | ⟨-, hi⟩ := exec_rxOvf_cases hx <;> simp_all
  · obtain e | ⟨-, hi⟩ | ⟨e, -⟩ := exec_replyReq_cases hx <;> simp_all
  · obtain e | ⟨e, -⟩ | ⟨-, hi | hi | ⟨hs, ht, hdone, -⟩⟩ := exec_replyReq_cases hx <;> simp_all

/-! ### The tags are never interpreted (R26, R36)

Each operation commutes with hiding the tags of the block, so hiding them in a state hides no more of a step's outcome
than the tags. -/

/-- The block with TX_TAG, TAG and COMP_TAG out of sight: what `hideTags` does to a state's block. -/
def Block.hideTags (b : Block) : Block := { b with txTag := 0#8, tag := 0#8, compTag := 0#8 }

@[simp] theorem Block.hideTags_fields (b : Block) :
    b.hideTags.state = b.state ∧ b.hideTags.replyReq = b.replyReq ∧ b.hideTags.txFrame = b.txFrame ∧
    b.hideTags.retriesLeft = b.retriesLeft ∧ b.hideTags.repeatsLeft = b.repeatsLeft ∧
    b.hideTags.sendTs = b.sendTs ∧ b.hideTags.airTs = b.airTs ∧ b.hideTags.replyRetries = b.replyRetries :=
  ⟨rfl, rfl, rfl, rfl, rfl, rfl, rfl, rfl⟩

@[simp] theorem Block.hideTags_hideTags (b : Block) : b.hideTags.hideTags = b.hideTags := rfl

@[simp] theorem hideTags_block (s : State) : (hideTags s).block = s.block.hideTags := rfl
@[simp] theorem hideTags_now (s : State) : (hideTags s).now = s.now := rfl
@[simp] theorem hideTags_rxData (s : State) : (hideTags s).rxData = s.rxData := rfl

/-- Of a finished step only the new block has tags to hide, beside the value read. -/
@[simp] theorem hideTags_finish (s : State) (b : Block) (o : Option Frame) (r : Option Byte) :
    hideTags (finish s b o r) = finish s b.hideTags o none := rfl

/-- The end of a step replaces what `hideTags` reaches. -/
theorem finish_hideTags (s : State) (b : Block) (o : Option Frame) (r : Option Byte) :
    finish (hideTags s) b o r = finish s b o r := rfl

theorem sample_hideTags (s : State) (e : Event) (rest : List Event) :
    sample (hideTags s) e rest = hideTags (sample s e rest) := rfl

theorem hideTags_writeReg (b : Block) (a : BitVec 6) (v : Byte) :
    (writeReg b a v).hideTags = (writeReg b.hideTags a v).hideTags := by
  simp only [writeReg, apply_ite Block.hideTags, apply_dite Block.hideTags]
  rfl

theorem hideTags_startTransmit (reply : Bool) (n : Byte) (now : Word) (b : Block) :
    (startTransmit reply n now b).hideTags = (startTransmit reply n now b.hideTags).hideTags := by
  by_cases hb : b.state = .idle
  · rw [startTransmit_idle reply n now b hb, startTransmit_idle reply n now b.hideTags hb]; rfl
  · rw [startTransmit_busy reply n now b hb, startTransmit_busy reply n now b.hideTags hb]; rfl

theorem tick_hideTags (cfg : Cfg) (cd : Bool) (now : Word) (b : Block) :
    tick cfg cd now b.hideTags = ((tick cfg cd now b).1.hideTags, (tick cfg cd now b).2) := by
  simp only [tick, Block.hideTags_fields]
  cases b.state
  case idle | txBusy => rfl
  all_goals simp only; split_ifs <;> rfl

theorem transmitDone_hideTags (now : Word) (b : Block) :
    transmitDone now b.hideTags = ((transmitDone now b).1.hideTags, (transmitDone now b).2) := by
  simp only [transmitDone, Block.hideTags_fields]
  cases b.state
  case txBusy => simp only; split_ifs <;> rfl
  all_goals rfl

theorem receiveStart_hideTags (b : Block) : receiveStart b.hideTags = (receiveStart b).hideTags := by
  simp only [receiveStart, Block.hideTags_fields]
  cases b.state <;> rfl

/-- The receive predicate reads MY_TYPE and MY_ID of the block, no tag, so both sides take the same branch. -/
theorem receiveDone_hideTags (cfg : Cfg) (len : Byte) (D : Frame) (b : Block) :
    receiveDone cfg len D b.hideTags = (receiveDone cfg len D b).hideTags := by
  simp only [receiveDone, Block.hideTags_fields]
  cases b.state
  case txBusy => rfl
  all_goals simp only [apply_ite Block.hideTags]; rfl

/-- Two ends of a step look the same where the new blocks and the sends do; what a read put out does not show. -/
theorem sameButTags_finish (s : State) {b c : Block} {o o' : Option Frame} (r r' : Option Byte)
    (hb : b.hideTags = c.hideTags) (ho : o = o') :
    sameButTags (.next (finish s b o r)) (.next (finish (hideTags s) c o' r')) := by
  simp only [sameButTags, hideTags_finish, finish_hideTags, hb, ho]

theorem exec_hideTags (i : Instr) (s : State) : sameButTags (exec i s) (exec i (hideTags s)) := by
  cases i
  case tick cd => exact sameButTags_finish s none none (by simp [tick_hideTags]) (by simp [tick_hideTags])
  case txDone =>
    exact sameButTags_finish s none none (by simp [transmitDone_hideTags]) (by simp [transmitDone_hideTags])
  case regWrite a v => exact sameButTags_finish s none none (hideTags_writeReg s.block a v) rfl
  case startTx => exact sameButTags_finish s none none (hideTags_startTransmit false 0#8 s.now s.block) rfl
  case startTxReply =>
    exact sameButTags_finish s none none (hideTags_startTransmit true s.block.replyRetries s.now s.block) rfl
  case rxStart => exact sameButTags_finish s none none (by simp [receiveStart_hideTags]) rfl
  case rxDone len => exact sameButTags_finish s none none (by simp [receiveDone_hideTags]) rfl
  case regRead a => exact sameButTags_finish s _ _ rfl rfl
  all_goals exact sameButTags_finish s none none rfl rfl

/-- A step shows no difference between a state and the same state with its tags hidden. -/
theorem step_hideTags (s : State) : sameButTags (step s) (step (hideTags s)) := by
  cases hi : s.inbox with
  | nil =>
    rw [step_of_inbox_nil hi, step_of_inbox_nil (s := hideTags s) hi]
    exact sameButTags_finish s none none rfl rfl
  | cons e rest =>
    cases hd : decode e.word with
    | ok i =>
      rw [step_of_decode_ok hi hd, step_of_decode_ok (s := hideTags s) hi hd, sample_hideTags]
      exact exec_hideTags i (sample s e rest)
    | error m =>
      rw [step_of_decode_error hi hd, step_of_decode_error (s := hideTags s) hi hd]
      rfl

theorem sameButTags.symm {x y : Host.Outcome State Fault Refusal} (h : sameButTags x y) : sameButTags y x := by
  cases x <;> cases y <;> simp_all [sameButTags]

theorem sameButTags.trans {x y z : Host.Outcome State Fault Refusal} (h : sameButTags x y) (h' : sameButTags y z) :
    sameButTags x z := by
  cases x <;> cases y <;> cases z <;> simp_all [sameButTags]

/-- Settles O56: both steps look like the step from the one state with its tags hidden. -/
theorem tagNeverInterpreted : Obligations.TagNeverInterpreted := by
  unfold Obligations.TagNeverInterpreted
  intro s s' h
  have hs' : sameButTags (step s') (step (hideTags s)) := h ▸ step_hideTags s'
  exact (step_hideTags s).trans hs'.symm

end Sys2Proof.Machine
end

section
/-! The statements of 20_memory.md: the register map (R55), and what later reads see of a register write (R52, R58). -/

namespace Sys2Proof.Machine

/-! ### The three frame windows of the map (R55)

Address `base + i` holds byte `i` of its frame. -/

section
variable (b : Block) {a : BitVec 6} (i : Fin 16)

/-- An address of a frame is none of the single registers, which end at 0x0D. -/
theorem ne_singleReg_of_le_toNat (ha : 0x10 ≤ a.toNat) {r : BitVec 6} (hr : r.toNat ≤ 0x0D) : a ≠ r := by
  rintro rfl
  omega

theorem readReg_fb (h : a.toNat = 0x10 + i) : readReg b a = b.fb[i] := by
  have hi : 0x10 + i.val < 0x20 := by omega
  simp [readReg, ne_singleReg_of_le_toNat (a := a) (by omega), h, hi]

theorem readReg_rxBuf (h : a.toNat = 0x20 + i) : readReg b a = b.rxBuf[i] := by
  have hi : 0x20 + i.val < 0x30 := by omega
  simp [readReg, ne_singleReg_of_le_toNat (a := a) (by omega), h, hi]

theorem readReg_txFrame (h : a.toNat = 0x30 + i) : readReg b a = b.txFrame[i] := by
  have hi : ¬ 0x30 + i.val < 0x20 := by omega
  simp [readReg, ne_singleReg_of_le_toNat (a := a) (by omega), h, hi]

end

/-- The address of byte `i` of the window at `base` does not wrap: no window ends beyond 0x3F. -/
theorem windowAddr_toNat {base : BitVec 6} (hbase : base.toNat ≤ 0x30) (i : Fin 16) :
    (base + BitVec.ofNat 6 i.val).toNat = base.toNat + i := by
  simp only [BitVec.toNat_add, BitVec.toNat_ofNat]
  omega

/-- Settles O21: the codes and the single registers by computation, the three frames byte by byte. -/
theorem registerMap : Obligations.RegisterMap := by
  unfold Obligations.RegisterMap
  refine ⟨⟨rfl, rfl, rfl, rfl, rfl⟩, ⟨rfl, rfl, rfl, rfl⟩, ⟨rfl, rfl, rfl⟩, fun s a => ⟨_, exec_regRead s a, rfl⟩,
    fun b => ⟨rfl, rfl, rfl, rfl, rfl, rfl, rfl, rfl, rfl, rfl, rfl, rfl, rfl, rfl, rfl, rfl, fun i => ⟨?_, ?_, ?_⟩⟩⟩
  · exact readReg_fb b i (windowAddr_toNat (by decide) i)
  · exact readReg_rxBuf b i (windowAddr_toNat (by decide) i)
  · exact readReg_txFrame b i (windowAddr_toNat (by decide) i)

/-! ### What a write shows at its own address and at the others -/

/-- A write shows at no address but its own: a register written is read in one branch of the map, FB at one index. -/
theorem readReg_writeReg_ne (b : Block) (v : Byte) {a c : BitVec 6} (hc : c ≠ a) :
    readReg (writeReg b a v) c = readReg b c := by
  obtain ⟨rfl, e⟩ | ⟨rfl, e⟩ | ⟨rfl, e⟩ | ⟨rfl, e⟩ | ⟨rfl, e⟩ | ⟨rfl, e⟩ | ⟨i, hi, e⟩ | ⟨-, e⟩ :=
    writeReg_cases b a v <;> rw [e]
  iterate 6 · simp only [readReg, if_neg hc]; rfl
  · have hne : c.toNat ≠ 0x10 + i := hi ▸ fun h => hc (BitVec.eq_of_toNat_eq h)
    exact readReg_setFb_ne b i v c hne

/-- IRQ_EN keeps the low two bits of what is written to it (R39, R130). -/
theorem readReg_writeReg_irqEn (b : Block) (v : Byte) : readReg (writeReg b 0x06#6 v) 0x06#6 = v &&& 0x03#8 := by
  have hview : readReg (writeReg b 0x06#6 v) 0x06#6 =
      (BitVec.ofBool (v.getLsbD 1) ++ BitVec.ofBool (v.getLsbD 0)).setWidth 8 := rfl
  rw [hview]
  ext k hk
  rw [BitVec.getElem_setWidth, BitVec.getLsbD_append]
  interval_cases k <;> simp

/-- A writable register other than IRQ_EN shows the byte written. -/
theorem readReg_writeReg_self (b : Block) (v : Byte) {a : BitVec 6}
    (ha : (0x07 ≤ a.toNat ∧ a.toNat ≤ 0x0B) ∨ (0x10 ≤ a.toNat ∧ a.toNat ≤ 0x1F)) :
    readReg (writeReg b a v) a = v := by
  obtain ⟨rfl, -⟩ | ⟨rfl, -⟩ | ⟨rfl, -⟩ | ⟨rfl, -⟩ | ⟨rfl, -⟩ | ⟨rfl, -⟩ | ⟨i, hi, e⟩ | ⟨hread, -⟩ :=
    writeReg_cases b a v
  · exact absurd ha (by decide)
  iterate 5 · rfl
  · rw [e, readReg_fb _ i hi]
    exact Vector.getElem_set_self i.isLt
  · omega

/-- A write to a read-only or reserved address changes nothing (R52). -/
theorem writeReg_readOnly (b : Block) (v : Byte) {a : BitVec 6}
    (ha : a.toNat ≤ 5 ∨ (0x0C ≤ a.toNat ∧ a.toNat ≤ 0x0F) ∨ 0x20 ≤ a.toNat) : writeReg b a v = b := by
  obtain ⟨rfl, -⟩ | ⟨rfl, -⟩ | ⟨rfl, -⟩ | ⟨rfl, -⟩ | ⟨rfl, -⟩ | ⟨rfl, -⟩ | ⟨i, hi, -⟩ | ⟨-, e⟩ :=
    writeReg_cases b a v
  iterate 6 · exact absurd ha (by decide)
  · omega
  · exact e

/-- Settles O20: a writable address shows what was written, a read-only one and every other what it showed. -/
theorem registerWriteReadBack : Obligations.RegisterWriteReadBack := by
  unfold Obligations.RegisterWriteReadBack
  intro s a v _
  refine ⟨_, exec_regWrite s a v, ?_, readReg_writeReg_self s.block v, fun ha => ?_,
    fun _ => readReg_writeReg_ne s.block v⟩
  · rintro rfl
    exact readReg_writeReg_irqEn s.block v
  · rw [quiet_block, writeReg_readOnly s.block v ha]

end Sys2Proof.Machine
end

section
/-! The statements of 30_encoding.md: encoder and decoder undo each other (R74 to R78), malformed words (R76), the
opcode table (R79), programs (R82 to R84), and the bytes of a frame that are never interpreted (R72). -/

namespace Sys2Proof.Machine

/-! ### Host writes (R78, R79) -/

/-- A command code has a row of its own or is reserved. -/
theorem commandCode_cases (c : Byte) :
    c = 0x00#8 ∨ c = 0x01#8 ∨ c = 0x02#8 ∨ c = 0x03#8 ∨ c = 0x04#8 ∨ c = 0x05#8 ∨ c = 0x06#8 ∨ 7 ≤ c.toNat := by
  bv_omega

theorem commandOf_reserved {c : Byte} (h : 7 ≤ c.toNat) : commandOf c = .cmdReserved c := by
  unfold commandOf
  split
  case h_8 => rfl
  all_goals omega

theorem encode_commandOf (c : Byte) : encode (commandOf c) = commandWord c := by
  obtain rfl | rfl | rfl | rfl | rfl | rfl | rfl | h := commandCode_cases c
  iterate 7 · rfl
  · rw [commandOf_reserved h]; rfl

theorem wellFormed_cmdReserved_iff (c : Byte) : wellFormed (.cmdReserved c) = true ↔ 7 ≤ c.toNat := by
  simp [wellFormed, BitVec.le_def]

theorem wellFormed_commandOf (c : Byte) : wellFormed (commandOf c) = true := by
  obtain rfl | rfl | rfl | rfl | rfl | rfl | rfl | h := commandCode_cases c
  iterate 7 · rfl
  · rw [commandOf_reserved h]; exact (wellFormed_cmdReserved_iff c).mpr h

theorem isCommand_commandOf (c : Byte) : isCommand (commandOf c) = true := by
  obtain rfl | rfl | rfl | rfl | rfl | rfl | rfl | h := commandCode_cases c
  iterate 7 · rfl
  · rw [commandOf_reserved h]; rfl

@[simp] theorem hostWriteOf_zero (v : Byte) : hostWriteOf 0#6 v = commandOf v := rfl

theorem hostWriteOf_of_ne {a : BitVec 6} (h : a ≠ 0#6) (v : Byte) : hostWriteOf a v = .regWrite a v := if_neg h

theorem encode_hostWriteOf (a : BitVec 6) (v : Byte) : encode (hostWriteOf a v) = eventWord 1#4 a v false 0#8 := by
  by_cases h : a = 0#6
  · subst h; exact encode_commandOf v
  · rw [hostWriteOf_of_ne h]; rfl

theorem wellFormed_hostWriteOf (a : BitVec 6) (v : Byte) : wellFormed (hostWriteOf a v) = true := by
  by_cases h : a = 0#6
  · subst h; exact wellFormed_commandOf v
  · simpa [hostWriteOf_of_ne h, wellFormed] using h

/-- The word of a host write as R74 and R75 lay it out: KIND 1, ADDR, DATA. -/
theorem encode_hostWriteOf_eq (a : BitVec 6) (v : Byte) :
    encode (hostWriteOf a v) = 0x10000000#32 ||| a.setWidth 32 <<< 22 ||| v.setWidth 32 <<< 14 := by
  simp [encode_hostWriteOf, eventWord]

/-! ### What an event word spells -/

theorem eventOf_commandWord (c : Byte) : eventOf (commandWord c) = some (commandOf c) := by
  simp [eventOf, commandWord]

theorem eventOf_encode {i : Instr} (h : wellFormed i = true) : eventOf (encode i) = some i := by
  cases i
  case cmdReserved c =>
    have hc : commandOf c = .cmdReserved c := commandOf_reserved ((wellFormed_cmdReserved_iff c).mp h)
    exact (eventOf_commandWord c).trans (congrArg some hc)
  case nop | encode | decode | startTx | startTxReply | ackDone | rxAck => exact eventOf_commandWord _
  case regWrite a v =>
    have ha : a ≠ 0#6 := by simpa [wellFormed] using h
    simp [eventOf, Sys2Proof.encode, hostWriteOf_of_ne ha]
  all_goals simp [eventOf, Sys2Proof.encode]

theorem offendingFields_encode {i : Instr} (h : wellFormed i = true) : offendingFields (encode i) = [] := by
  cases i
  case tick cd => exact Laws.EncodesCleanly.tick cd h
  case regWrite a v => exact Laws.EncodesCleanly.regWrite a v h
  case cmdReserved | nop | encode | decode | startTx | startTxReply | ackDone | rxAck =>
    exact Laws.offendingFields_command _
  case regRead a => exact Laws.EncodesCleanly.regRead a h
  case txDone => exact Laws.EncodesCleanly.txDone h
  case rxStart => exact Laws.EncodesCleanly.rxStart h
  case rxDone n => exact Laws.EncodesCleanly.rxDone n h
  case reset => exact Laws.EncodesCleanly.reset h

theorem decode_encode {i : Instr} (h : wellFormed i = true) : decode (encode i) = .ok i :=
  (decode_eq_ok _ i).mpr ⟨eventOf_encode h, offendingFields_encode h⟩

theorem decode_hostWriteWord (a : BitVec 6) (v : Byte) :
    decode (0x10000000#32 ||| a.setWidth 32 <<< 22 ||| v.setWidth 32 <<< 14) = .ok (hostWriteOf a v) := by
  rw [← encode_hostWriteOf_eq, decode_encode (wellFormed_hostWriteOf a v)]

/-- Settles O2: the KIND and the operands are read back from the word, and no other field is set. -/
theorem decodeEncode : Obligations.DecodeEncode := by
  unfold Obligations.DecodeEncode
  intro i h
  exact decode_encode h

/-- Settles O1: each of the nine words is the encoding of its event. -/
theorem knownWordsDecode : Obligations.KnownWordsDecode := by
  unfold Obligations.KnownWordsDecode
  exact ⟨decode_encode (i := .regWrite 0x09#6 0x03#8) rfl, decode_encode (i := .startTx) rfl,
    decode_encode (i := .tick true) rfl, decode_encode (i := .rxDone 16#8) rfl, decode_encode (i := .encode) rfl,
    decode_encode (i := .txDone) rfl, decode_encode (i := .reset) rfl, decode_encode (i := .regRead 0x1E#6) rfl,
    decode_encode (i := .cmdReserved 0x07#8) rfl⟩

/-- The event by KIND, of which 7 to 15 name none. -/
theorem eventOf_cases {w : Word} {i : Instr} (h : eventOf w = some i) :
    (kindOf w = 0#4 ∧ i = .tick (cdOf w)) ∨ (kindOf w = 1#4 ∧ i = hostWriteOf (addrOf w) (dataOf w)) ∨
    (kindOf w = 2#4 ∧ i = .regRead (addrOf w)) ∨ (kindOf w = 3#4 ∧ i = .txDone) ∨ (kindOf w = 4#4 ∧ i = .rxStart) ∨
    (kindOf w = 5#4 ∧ i = .rxDone (lenOf w)) ∨ (kindOf w = 6#4 ∧ i = .reset) := by
  unfold eventOf at h
  split at h <;> simp_all [← BitVec.toNat_inj]

/-- Every KIND that R76 allows names an event. -/
theorem exists_eventOf {w : Word} (h : kindOf w ≤ 6#4) : ∃ i, eventOf w = some i := by
  have hk : (kindOf w).toNat ≤ 6 := h
  unfold eventOf
  generalize (kindOf w).toNat = n at hk ⊢
  interval_cases n <;> exact ⟨_, rfl⟩

/-! ### Well-formed words (R76) -/

/-- R76 field by field: the KIND is not reserved, each field that the KIND does not use is 0, and bits 12:8 are 0. -/
theorem offendingFields_eq_nil_iff (w : Word) :
    offendingFields w = [] ↔ kindOf w ≤ 6#4 ∧ (kindOf w ≠ 1#4 → kindOf w ≠ 2#4 → addrOf w = 0#6) ∧
      (kindOf w ≠ 1#4 → dataOf w = 0#8) ∧ (kindOf w ≠ 0#4 → cdOf w = false) ∧ reservedOf w = 0#5 ∧
      (kindOf w ≠ 5#4 → lenOf w = 0#8) := by
  simp [offendingFields, fieldOffends, usesField, fieldIsZero]

theorem exists_decode_iff (w : Word) : (∃ i, decode w = .ok i) ↔ offendingFields w = [] := by
  simp only [decode_eq_ok, exists_and_right, and_iff_right_iff_imp]
  intro h
  obtain ⟨hkind, -⟩ := (offendingFields_eq_nil_iff w).mp h
  exact exists_eventOf hkind

theorem wellFormed_of_decode {w : Word} {i : Instr} (h : decode w = .ok i) : wellFormed i = true := by
  obtain ⟨hevent, -⟩ := (decode_eq_ok w i).mp h
  obtain ⟨-, rfl⟩ | ⟨-, rfl⟩ | ⟨-, rfl⟩ | ⟨-, rfl⟩ | ⟨-, rfl⟩ | ⟨-, rfl⟩ | ⟨-, rfl⟩ := eventOf_cases hevent
  case inr.inl => exact wellFormed_hostWriteOf _ _
  all_goals rfl

/-- A word that decodes is built from the fields its KIND uses, hence is the word of its event. -/
theorem encode_of_decode {w : Word} {i : Instr} (h : decode w = .ok i) : encode i = w := by
  obtain ⟨hevent, hclean⟩ := (decode_eq_ok w i).mp h
  obtain ⟨-, haddr, hdata, hcd, hres, hlen⟩ := (offendingFields_eq_nil_iff w).mp hclean
  have hw : eventWord (kindOf w) (addrOf w) (dataOf w) (cdOf w) (lenOf w) = w := eventWord_fields w hres
  obtain ⟨hk, rfl⟩ | ⟨hk, rfl⟩ | ⟨hk, rfl⟩ | ⟨hk, rfl⟩ | ⟨hk, rfl⟩ | ⟨hk, rfl⟩ | ⟨hk, rfl⟩ := eventOf_cases hevent
  case inr.inl => simpa [encode_hostWriteOf, hk, hcd, hlen] using hw
  all_goals simpa [encode, hk, haddr, hdata, hcd, hlen] using hw

/-- Settles O3. -/
theorem encodeDecode : Obligations.EncodeDecode := by
  unfold Obligations.EncodeDecode
  intro w i h
  exact ⟨wellFormed_of_decode h, encode_of_decode h⟩

theorem fieldOffends_iff (w : Word) (f : EventField) : fieldOffends w f = true ↔ fieldBreaksR76 w f := by
  cases f <;>
    simp [fieldOffends, usesField, fieldIsZero, fieldBreaksR76, kindOf, addrOf, dataOf, cdOf, reservedOf, lenOf,
      BitVec.lt_def, and_assoc]

theorem offendingFields_eq_nil_iff_forall (w : Word) : offendingFields w = [] ↔ ∀ f, ¬ fieldBreaksR76 w f := by
  simp only [List.eq_nil_iff_forall_not_mem, mem_offendingFields, fieldOffends_iff]

/-- A word of which some field offends is refused, with all of its fields that do. -/
theorem decode_of_offendingFields_ne_nil {w : Word} (h : offendingFields w ≠ []) :
    decode w = .error ⟨kindOf w, offendingFields w⟩ := by
  cases hd : decode w with
  | ok i => exact absurd ((decode_eq_ok w i).mp hd).2 h
  | error m => rw [decode_eq_error w m hd]

/-- Settles O4: the fields that offend are those that break R76. -/
theorem malformedWordsRefused : Obligations.MalformedWordsRefused := by
  unfold Obligations.MalformedWordsRefused
  refine ⟨fun w => (exists_decode_iff w).trans (offendingFields_eq_nil_iff_forall w), ?_⟩
  intro s e rest f hinbox hf
  have hmem : ∀ g, g ∈ offendingFields e.word ↔ fieldBreaksR76 e.word g := fun g =>
    (mem_offendingFields e.word g).trans (fieldOffends_iff e.word g)
  have hne : offendingFields e.word ≠ [] := List.ne_nil_of_mem ((hmem f).mpr hf)
  exact ⟨_, step_of_decode_error hinbox (decode_of_offendingFields_ne_nil hne), hmem⟩

/-! ### The rows of the opcode table (R79) -/

/-- A word is its six fields side by side (R74). -/
theorem append_fields (w : Word) :
    kindOf w ++ addrOf w ++ dataOf w ++ BitVec.ofBool (cdOf w) ++ reservedOf w ++ lenOf w = w := by
  have hcd : BitVec.ofBool (cdOf w) = w.extractLsb' 13 1 := by
    ext k hk; interval_cases k; simp [cdOf]
  simp only [hcd, kindOf, addrOf, dataOf, reservedOf, lenOf]
  iterate 5 rw [BitVec.extractLsb'_append_extractLsb'_eq_extractLsb' (by rfl)]
  exact BitVec.extractLsb'_eq_self

theorem word_eq_iff (w w' : Word) :
    w = w' ↔ kindOf w = kindOf w' ∧ addrOf w = addrOf w' ∧ dataOf w = dataOf w' ∧ cdOf w = cdOf w' ∧
      reservedOf w = reservedOf w' ∧ lenOf w = lenOf w' := by
  refine ⟨by rintro rfl; simp, fun ⟨hk, ha, hd, hc, hr, hl⟩ => ?_⟩
  rw [← append_fields w, ← append_fields w', hk, ha, hd, hc, hr, hl]

/-- A word matches a row field by field. -/
theorem rowMatches_iff (r : TableRow) (w : Word) :
    rowMatches r w = true ↔
      kindOf w &&& kindOf r.mask = kindOf r.matchBits ∧ addrOf w &&& addrOf r.mask = addrOf r.matchBits ∧
      dataOf w &&& dataOf r.mask = dataOf r.matchBits ∧ (cdOf w && cdOf r.mask) = cdOf r.matchBits ∧
      reservedOf w &&& reservedOf r.mask = reservedOf r.matchBits ∧ lenOf w &&& lenOf r.mask = lenOf r.matchBits := by
  rw [rowMatches, beq_iff_eq, word_eq_iff]
  simp only [kindOf, addrOf, dataOf, cdOf, reservedOf, lenOf, BitVec.extractLsb'_and, BitVec.getLsbD_and]

/-- A field that a matching row's mask covers has the row's value. -/
theorem rowMatches_fields {r : TableRow} {w : Word} (h : rowMatches r w = true) :
    (kindOf r.mask = BitVec.allOnes 4 → kindOf w = kindOf r.matchBits) ∧
    (addrOf r.mask = BitVec.allOnes 6 → addrOf w = addrOf r.matchBits) ∧
    (dataOf r.mask = BitVec.allOnes 8 → dataOf w = dataOf r.matchBits) ∧
    (cdOf r.mask = true → cdOf w = cdOf r.matchBits) ∧
    (reservedOf r.mask = BitVec.allOnes 5 → reservedOf w = reservedOf r.matchBits) ∧
    (lenOf r.mask = BitVec.allOnes 8 → lenOf w = lenOf r.matchBits) := by
  obtain ⟨hk, ha, hd, hc, hr, hl⟩ := (rowMatches_iff r w).mp h
  rw [← hk, ← ha, ← hd, ← hc, ← hr, ← hl]
  simp +contextual [-BitVec.reduceAllOnes]

/-- Each row spells events of one KIND: its match bits are a word, and its mask covers the KIND, the reserved bits and
every field that the KIND does not use. -/
theorem opcodeTable_masks : ∀ r ∈ opcodeTable,
    offendingFields r.matchBits = [] ∧ kindOf r.mask = BitVec.allOnes 4 ∧
    (kindOf r.matchBits ≠ 1#4 → kindOf r.matchBits ≠ 2#4 → addrOf r.mask = BitVec.allOnes 6) ∧
    (kindOf r.matchBits ≠ 1#4 → dataOf r.mask = BitVec.allOnes 8) ∧
    (kindOf r.matchBits ≠ 0#4 → cdOf r.mask = true) ∧ reservedOf r.mask = BitVec.allOnes 5 ∧
    (kindOf r.matchBits ≠ 5#4 → lenOf r.mask = BitVec.allOnes 8) := by
  decide

theorem offendingFields_of_rowMatches {r : TableRow} {w : Word} (hr : r ∈ opcodeTable) (h : rowMatches r w = true) :
    offendingFields w = [] := by
  obtain ⟨hclean, mkind, maddr, mdata, mcd, mres, mlen⟩ := opcodeTable_masks r hr
  obtain ⟨hkind, haddr, hdata, hcd, hres, hlen⟩ := rowMatches_fields h
  rw [offendingFields_eq_nil_iff] at hclean ⊢
  obtain ⟨ckind, caddr, cdata, ccd, cres, clen⟩ := hclean
  rw [hkind mkind, hres mres]
  exact ⟨ckind, fun h1 h2 => (haddr (maddr h1 h2)).trans (caddr h1 h2), fun h1 => (hdata (mdata h1)).trans (cdata h1),
    fun h0 => (hcd (mcd h0)).trans (ccd h0), cres, fun h5 => (hlen (mlen h5)).trans (clen h5)⟩

/-- The rows ask the same of each bit that both their masks cover. -/
def rowsAgree (r r' : TableRow) : Bool := r.matchBits &&& r'.mask == r'.matchBits &&& r.mask

theorem rowsAgree_of_rowMatches {r r' : TableRow} {w : Word} (h : rowMatches r w = true) (h' : rowMatches r' w = true) :
    rowsAgree r r' = true := by
  rw [rowMatches, beq_iff_eq] at h h'
  rw [rowsAgree, beq_iff_eq, ← h, ← h', BitVec.and_assoc, BitVec.and_assoc, BitVec.and_comm r.mask]

theorem eq_of_rowsAgree_of_maskWeight_eq : ∀ r ∈ opcodeTable, ∀ r' ∈ opcodeTable, rowsAgree r r' = true →
    maskWeight r.mask = maskWeight r'.mask → r = r' := by
  decide

/-- Of two rows that can match one word, the second takes precedence only as a command over REG_WRITE, where it asks for
address 0, and as a command with a code of its own over CMD_RESERVED. -/
theorem rowsAgree_cases : ∀ r ∈ opcodeTable, ∀ r' ∈ opcodeTable, rowsAgree r r' = true →
    r' = r ∨ maskWeight r'.mask < maskWeight r.mask ∨
    (r.mnemonic = "REG_WRITE" ∧ addrOf r'.mask = BitVec.allOnes 6 ∧ addrOf r'.matchBits = 0#6) ∨
    (r.mnemonic = "CMD_RESERVED" ∧ dataOf r'.mask = BitVec.allOnes 8 ∧ (dataOf r'.matchBits).toNat < 7) := by
  decide

/-! ### The row of an instruction -/

/-- The row that names the instruction; the table has the order of the constructors. -/
def rowOf : Instr → TableRow
  | .tick _ => opcodeTable[0]
  | .regWrite _ _ => opcodeTable[1]
  | .cmdReserved _ => opcodeTable[2]
  | .nop => opcodeTable[3]
  | .encode => opcodeTable[4]
  | .decode => opcodeTable[5]
  | .startTx => opcodeTable[6]
  | .startTxReply => opcodeTable[7]
  | .ackDone => opcodeTable[8]
  | .rxAck => opcodeTable[9]
  | .regRead _ => opcodeTable[10]
  | .txDone => opcodeTable[11]
  | .rxStart => opcodeTable[12]
  | .rxDone _ => opcodeTable[13]
  | .reset => opcodeTable[14]

theorem rowOf_mem (i : Instr) : rowOf i ∈ opcodeTable := by
  cases i <;> exact List.getElem_mem _

theorem rowOf_mnemonic (i : Instr) : (rowOf i).mnemonic = mnemonic i := by
  cases i <;> rfl

theorem eq_regWrite_of_mnemonic {i : Instr} (h : mnemonic i = "REG_WRITE") : ∃ a v, i = .regWrite a v := by
  cases i <;> simp_all [mnemonic]

theorem eq_cmdReserved_of_mnemonic {i : Instr} (h : mnemonic i = "CMD_RESERVED") : ∃ c, i = .cmdReserved c := by
  cases i <;> simp_all [mnemonic]

theorem rowMatches_eventWord_iff (r : TableRow) (k : BitVec 4) (a : BitVec 6) (d : Byte) (c : Bool) (l : Byte) :
    rowMatches r (eventWord k a d c l) = true ↔
      k &&& kindOf r.mask = kindOf r.matchBits ∧ a &&& addrOf r.mask = addrOf r.matchBits ∧
      d &&& dataOf r.mask = dataOf r.matchBits ∧ (c && cdOf r.mask) = cdOf r.matchBits ∧
      0#5 &&& reservedOf r.mask = reservedOf r.matchBits ∧ l &&& lenOf r.mask = lenOf r.matchBits := by
  rw [rowMatches_iff, kindOf_eventWord, addrOf_eventWord, dataOf_eventWord, cdOf_eventWord, reservedOf_eventWord,
    lenOf_eventWord]

/-- A row that the word without operands matches is matched with any operands that the row's mask leaves out. -/
theorem rowMatches_eventWord {r : TableRow} {k : BitVec 4} {a : BitVec 6} {d : Byte} {c : Bool} {l : Byte}
    (h : rowMatches r (eventWord k 0#6 0#8 false 0#8) = true) (ha : a = 0#6 ∨ addrOf r.mask = 0#6)
    (hd : d = 0#8 ∨ dataOf r.mask = 0#8) (hc : c = false ∨ cdOf r.mask = false) (hl : l = 0#8 ∨ lenOf r.mask = 0#8) :
    rowMatches r (eventWord k a d c l) = true := by
  have ha' : a &&& addrOf r.mask = 0#6 &&& addrOf r.mask := by obtain e | e := ha <;> simp [e]
  have hd' : d &&& dataOf r.mask = 0#8 &&& dataOf r.mask := by obtain e | e := hd <;> simp [e]
  have hc' : (c && cdOf r.mask) = (false && cdOf r.mask) := by obtain e | e := hc <;> simp [e]
  have hl' : l &&& lenOf r.mask = 0#8 &&& lenOf r.mask := by obtain e | e := hl <;> simp [e]
  rw [rowMatches_eventWord_iff] at h ⊢
  rwa [ha', hd', hc', hl']

theorem rowMatches_rowOf (i : Instr) : rowMatches (rowOf i) (encode i) = true := by
  cases i
  case tick cd =>
    exact rowMatches_eventWord (r := opcodeTable[0]) (by decide) (.inl rfl) (.inl rfl) (.inr (by decide)) (.inl rfl)
  case regWrite a v =>
    exact rowMatches_eventWord (r := opcodeTable[1]) (by decide) (.inr (by decide)) (.inr (by decide)) (.inl rfl)
      (.inl rfl)
  case cmdReserved c =>
    exact rowMatches_eventWord (r := opcodeTable[2]) (by decide) (.inl rfl) (.inr (by decide)) (.inl rfl) (.inl rfl)
  case regRead a =>
    exact rowMatches_eventWord (r := opcodeTable[10]) (by decide) (.inr (by decide)) (.inl rfl) (.inl rfl) (.inl rfl)
  case rxDone n =>
    exact rowMatches_eventWord (r := opcodeTable[13]) (by decide) (.inl rfl) (.inl rfl) (.inl rfl) (.inr (by decide))
  all_goals decide

/-- R79: a row that matches the word of an event and is not the event's own has fewer mask bits. -/
theorem rowOf_precedes {i : Instr} (hi : wellFormed i = true) {r : TableRow} (hr : r ∈ opcodeTable)
    (h : rowMatches r (encode i) = true) : r = rowOf i ∨ maskWeight r.mask < maskWeight (rowOf i).mask := by
  obtain ⟨-, haddr, hdata, -, -, -⟩ := rowMatches_fields h
  have hagree : rowsAgree (rowOf i) r = true := rowsAgree_of_rowMatches (rowMatches_rowOf i) h
  obtain heq | hlt | ⟨hm, hmask, hzero⟩ | ⟨hm, hmask, hcode⟩ := rowsAgree_cases (rowOf i) (rowOf_mem i) r hr hagree
  · exact .inl heq
  · exact .inr hlt
  · obtain ⟨a, v, rfl⟩ := eq_regWrite_of_mnemonic ((rowOf_mnemonic i).symm.trans hm)
    have ha : a = 0#6 := by simpa [encode, hzero] using haddr hmask
    simp [wellFormed, ha] at hi
  · obtain ⟨c, rfl⟩ := eq_cmdReserved_of_mnemonic ((rowOf_mnemonic i).symm.trans hm)
    have hc : c = dataOf r.matchBits := by simpa [encode, commandWord] using hdata hmask
    rw [wellFormed_cmdReserved_iff, hc] at hi
    omega

/-- Settles O5: a word that decodes is the word of its event, of which `rowOf` is the row with the most mask bits. -/
theorem tableRowSelected : Obligations.TableRowSelected := by
  unfold Obligations.TableRowSelected
  refine ⟨fun w i h => ?_, fun w r hr h => ?_, fun w r r' hr hr' h h' => ?_, fun a v ha => ?_, fun c hc => ?_⟩
  · obtain rfl := encode_of_decode h
    exact ⟨rowOf i, rowOf_mem i, rowOf_mnemonic i, rowMatches_rowOf i,
      fun r hr => rowOf_precedes (wellFormed_of_decode h) hr⟩
  · exact (exists_decode_iff w).mpr (offendingFields_of_rowMatches hr h)
  · exact eq_of_rowsAgree_of_maskWeight_eq r hr r' hr' (rowsAgree_of_rowMatches h h')
  · rw [decode_hostWriteWord, hostWriteOf_of_ne ha]
  · simpa [commandOf_reserved hc] using decode_hostWriteWord 0#6 c

/-! ### Programs (R82, R84) -/

theorem assembleFrom_length (p : List TimedLine) : ∀ now : Word, (assembleFrom now p).length = p.length := by
  induction p with
  | nil => intro now; rfl
  | cons l rest ih => intro now; simp [assembleFrom, ih]

/-- Line `i` becomes event `i`, where a line without a time takes the NOW of the event before it, and the first line
that of the program's start. -/
theorem assembleFrom_getElem? {p : List TimedLine} {i : Nat} {l : TimedLine} (h : p[i]? = some l) (now : Word) :
    ∃ prev, (assembleFrom now p)[i]? = some (lineEvent (l.time.getD prev) l.line) ∧ (i = 0 → prev = now) ∧
      ∀ d, i ≠ 0 → (assembleFrom now p)[i - 1]? = some d → prev = d.now := by
  induction p generalizing i now with
  | nil => simp at h
  | cons l₀ rest ih =>
    cases i with
    | zero =>
      obtain rfl : l₀ = l := by simpa using h
      exact ⟨now, rfl, fun _ => rfl, fun _ h0 => absurd rfl h0⟩
    | succ j =>
      obtain ⟨prev, hevent, hfirst, hbefore⟩ := ih (i := j) (by simpa using h) (l₀.time.getD now)
      refine ⟨prev, by simpa [assembleFrom] using hevent, fun h0 => absurd h0 j.succ_ne_zero, fun d _ hd => ?_⟩
      cases j with
      | zero =>
        obtain rfl : lineEvent (l₀.time.getD now) l₀.line = d := by simpa [assembleFrom] using hd
        exact hfirst rfl
      | succ m => exact hbefore d m.succ_ne_zero (by simpa [assembleFrom] using hd)

theorem wellFormed_lineInstr (l : Line) : wellFormed (lineInstr l) = true := by
  cases l
  case wr a v => exact wellFormed_hostWriteOf a v
  all_goals rfl

/-- Settles O10. -/
theorem programAssembles : Obligations.ProgramAssembles := by
  unfold Obligations.ProgramAssembles
  refine ⟨fun a v => ⟨encode_hostWriteOf_eq a v, fun ha => hostWriteOf_of_ne ha v, ?_⟩, fun _ _ => rfl, fun _ => rfl,
    rfl, rfl, fun _ _ => rfl, rfl, fun p => ⟨assembleFrom_length p 0#32, fun i l hl => ?_⟩⟩
  · rintro rfl
    exact isCommand_commandOf v
  · obtain ⟨prev, hevent, hfirst, hbefore⟩ := assembleFrom_getElem? hl 0#32
    refine ⟨_, hevent, decode_encode (wellFormed_lineInstr l.line), rfl, fun t ht => ?_, fun hnone => ?_,
      fun n D hD => ?_⟩
    · simp [lineEvent, ht]
    · have hnow : (lineEvent (l.time.getD prev) l.line).now = prev := by simp [lineEvent, hnone]
      exact ⟨fun h0 => hnow.trans (hfirst h0), fun d h0 hd => hnow.trans (hbefore d h0 hd)⟩
    · simp [lineEvent, hD]

/-! ### What the receive path reads of a frame (R72, R112) -/

/-- The receive predicate reads the destination, and of the rest whether the trailer is right. -/
theorem accept_congr {cfg : Cfg} {D E : Frame} (htype : D[0] = E[0]) (hid : D[1] = E[1])
    (hck : cfg.checksum (header D) = trailer D ↔ cfg.checksum (header E) = trailer E) (b : Block) (len : Byte) :
    accept cfg b len D = accept cfg b len E := by
  have hck' : (frameChecksum cfg D == trailer D) = (frameChecksum cfg E == trailer E) :=
    Bool.eq_iff_iff.mpr (by simpa [frameChecksum] using hck)
  simp only [accept, addrMatch, dstType, dstId, htype, hid, hck']

/-- Of two frames that are both accepted or both not, RX_DONE stores both or neither, and its effect on the rest of the
block is the same. -/
theorem receiveDone_congr {cfg : Cfg} {b : Block} {len : Byte} {D E : Frame}
    (h : accept cfg b len D = accept cfg b len E) :
    (receiveDone cfg len D b = b ∧ receiveDone cfg len E b = b) ∨
    ((receiveDone cfg len D b).rxBuf = D ∧ receiveDone cfg len E b = { receiveDone cfg len D b with rxBuf := E }) := by
  unfold receiveDone
  rw [h]
  cases b.state
  case txBusy => exact .inl ⟨rfl, rfl⟩
  all_goals
    cases accept cfg b len E
    · exact .inl ⟨rfl, rfl⟩
    · exact .inr ⟨rfl, rfl⟩

/-- Settles O57. -/
theorem payloadNeverInterpreted : Obligations.PayloadNeverInterpreted := by
  unfold Obligations.PayloadNeverInterpreted
  intro s D len htype hid hck
  refine ⟨_, _, exec_rxDone s len, exec_rxDone _ len, ?_⟩
  simp only [quiet_block]
  obtain ⟨hs, hD⟩ | ⟨hs, hD⟩ := receiveDone_congr (accept_congr htype hid hck s.block len)
  · rw [hs, hD]
    exact ⟨rfl, .inr ⟨rfl, rfl⟩⟩
  · rw [hD]
    exact ⟨rfl, .inl ⟨hs, rfl⟩⟩

end Sys2Proof.Machine
end

section
/-! The statements of 40_codec.md: ENCODE and DECODE (R104 to R109), the default checksum (R101, R103), and the receive
predicate (R110 to R112). -/

namespace Sys2Proof.Machine

/-! ### The trailer of a frame (R102) -/

/-- A frame's own trailer written back changes nothing. -/
theorem setTrailer_eq_self {F : Frame} {ck : BitVec 16} (h : ck = trailer F) : setTrailer F ck = F := by
  have hhi : ck.extractLsb' 8 8 = F[14] := by rw [h]; exact BitVec.extractLsb'_append_eq_left
  have hlo : ck.extractLsb' 0 8 = F[15] := by rw [h]; exact BitVec.extractLsb'_append_eq_right
  unfold setTrailer
  rw [hhi, hlo, Vector.set_getElem_self, Vector.set_getElem_self]

/-- The trailer determines both of its bytes. -/
theorem trailer_inj {F G : Frame} : trailer F = trailer G ↔ F[14] = G[14] ∧ F[15] = G[15] := by
  refine ⟨fun h => ⟨?_, ?_⟩, fun ⟨hhi, hlo⟩ => congrArg₂ (· ++ ·) hhi hlo⟩
  · simpa only [trailer, BitVec.extractLsb'_append_eq_left, ckHi] using congrArg (BitVec.extractLsb' 8 8) h
  · simpa only [trailer, BitVec.extractLsb'_append_eq_right, ckLo] using congrArg (BitVec.extractLsb' 0 8) h

/-! ### ENCODE (R104) -/

/-- After ENCODE the trailer is right. -/
theorem frameChecksum_encodeFrame (cfg : Cfg) (b : Block) :
    frameChecksum cfg (encodeFrame cfg b).fb = trailer (encodeFrame cfg b).fb := by
  simp [encodeFrame]

/-- Where the trailer is right already, ENCODE writes CMD_RESULT only. -/
theorem encodeFrame_of_checksum_eq {cfg : Cfg} {b : Block} (h : frameChecksum cfg b.fb = trailer b.fb) :
    encodeFrame cfg b = { b with cmdResult := .success } := by
  rw [encodeFrame, setTrailer_eq_self h]

/-- Settles O14: after the first ENCODE the trailer is right, so the second finds nothing to write in FB. -/
theorem encodeResult : Obligations.EncodeResult := by
  unfold Obligations.EncodeResult
  refine ⟨decode_encode (i := .encode) rfl, ?_⟩
  rintro s c rfl
  refine ⟨rfl, ?_⟩
  rintro t ⟨⟩
  rw [exec_encode, quiet_block, encodeFrame_of_checksum_eq (frameChecksum_encodeFrame Config.cfg s.block)]
  rfl

/-! ### DECODE (R105, R106) -/

section
variable {cfg : Cfg} {b : Block}

theorem decodeFrame_of_flen_ne (hlen : b.flen ≠ 16#8) :
    decodeFrame cfg b = { b with decStatus := .invalidLength, cmdResult := .failure } := by
  simp [decodeFrame, decodeOutcome, hlen]

theorem decodeFrame_of_checksum_ne (hlen : b.flen = 16#8) (hck : frameChecksum cfg b.fb ≠ trailer b.fb) :
    decodeFrame cfg b = { b with decStatus := .invalidChecksum, cmdResult := .failure } := by
  simp [decodeFrame, decodeOutcome, hlen, hck]

theorem decodeFrame_of_checksum_eq (hlen : b.flen = 16#8) (hck : frameChecksum cfg b.fb = trailer b.fb) :
    decodeFrame cfg b = { b with decStatus := .ok, cmdResult := .success } := by
  simp [decodeFrame, decodeOutcome, hlen, hck]

/-- ENCODE does not touch FLEN, so DECODE comes as far as the trailer and finds the one that ENCODE wrote. -/
theorem decodeFrame_encodeFrame (hlen : b.flen = 16#8) :
    decodeFrame cfg (encodeFrame cfg b) = { encodeFrame cfg b with decStatus := .ok, cmdResult := .success } :=
  decodeFrame_of_checksum_eq hlen (frameChecksum_encodeFrame cfg b)

end

/-- Settles O15: one equation of DECODE for each clause. -/
theorem decodeResult : Obligations.DecodeResult := by
  unfold Obligations.DecodeResult
  refine ⟨decode_encode (i := .decode) rfl, ?_⟩
  rintro s c rfl
  refine ⟨fun hlen => ?_, fun hlen hck => ?_, fun hlen hck => ?_⟩
  · rw [exec_decode, decodeFrame_of_flen_ne hlen]; rfl
  · rw [exec_decode, decodeFrame_of_checksum_ne hlen hck]; rfl
  · rw [exec_decode, decodeFrame_of_checksum_eq hlen hck]; rfl

/-- Settles O16: ENCODE writes bytes 14 and 15 of FB only, and DECODE none. -/
theorem codecRoundTrip : Obligations.CodecRoundTrip := by
  unfold Obligations.CodecRoundTrip
  intro s hlen
  refine ⟨_, _, exec_encode s, exec_decode _, ?_⟩
  rw [quiet_block, quiet_block, decodeFrame_encodeFrame hlen]
  exact ⟨rfl, rfl, fun i hi => setTrailer_getElem s.block.fb _ i hi⟩

/-! ### One inverted bit (R103, R109) -/

/-- Inverting a bit of a byte changes the byte. -/
theorem xor_twoPow_ne_self (v : Byte) (k : Fin 8) : v ^^^ BitVec.twoPow 8 k ≠ v := by
  simpa using twoPow_ne_zero k

section
variable (F : Frame) (i : Fin 16) (k : Fin 8)

theorem header_flipBit_of_lt (hi : i.val < 14) : header (flipBit F i k) = flipBit (header F) ⟨i, hi⟩ k := by
  ext j hj
  simp [flipBit, Vector.getElem_set]

theorem header_flipBit_of_ge (hi : 14 ≤ i.val) : header (flipBit F i k) = header F := by
  ext j hj
  have hij : i.val ≠ j := by omega
  simp [flipBit, hij]

theorem trailer_flipBit_of_lt (hi : i.val < 14) : trailer (flipBit F i k) = trailer F := by
  have h14 : i.val ≠ 14 := by omega
  have h15 : i.val ≠ 15 := by omega
  exact trailer_inj.mpr ⟨by simp [flipBit, h14], by simp [flipBit, h15]⟩

theorem trailer_flipBit_of_ge (hi : 14 ≤ i.val) : trailer (flipBit F i k) ≠ trailer F := by
  intro h
  obtain ⟨h14, h15⟩ := trailer_inj.mp h
  obtain rfl | rfl : i = 14 ∨ i = 15 := by omega
  · exact xor_twoPow_ne_self F[14] k (by simpa [flipBit] using h14)
  · exact xor_twoPow_ne_self F[15] k (by simpa [flipBit] using h15)

end

/-- With one bit inverted, a right trailer is wrong: in bytes 0 to 13 the checksum changes and the trailer stands, in
the trailer it is the other way round. -/
theorem frameChecksum_flipBit_ne {cfg : Cfg} (hcfg : detectsSingleBit cfg.checksum) {F : Frame}
    (h : frameChecksum cfg F = trailer F) (i : Fin 16) (k : Fin 8) :
    frameChecksum cfg (flipBit F i k) ≠ trailer (flipBit F i k) := by
  obtain hi | hi := Nat.lt_or_ge i.val 14
  · rw [frameChecksum, header_flipBit_of_lt F i k hi, trailer_flipBit_of_lt F i k hi, ← h]
    exact hcfg (header F) ⟨i, hi⟩ k
  · rw [frameChecksum, header_flipBit_of_ge F i k hi, ← frameChecksum, h]
    exact (trailer_flipBit_of_ge F i k hi).symm

/-- A host write in the window of FB sets that byte of FB. -/
theorem writeReg_fb (b : Block) (i : Fin 16) (v : Byte) :
    writeReg b (0x10#6 + BitVec.ofNat 6 i.val) v = { b with fb := b.fb.set i v } := by
  have ha : (0x10#6 + BitVec.ofNat 6 i.val).toNat = 0x10 + i := windowAddr_toNat (by decide) i
  have hne {r : BitVec 6} (hr : r.toNat ≤ 0x0D) : 0x10#6 + BitVec.ofNat 6 i.val ≠ r :=
    ne_singleReg_of_le_toNat (by omega) hr
  obtain ⟨h, -⟩ | ⟨h, -⟩ | ⟨h, -⟩ | ⟨h, -⟩ | ⟨h, -⟩ | ⟨h, -⟩ | ⟨j, hj, e⟩ | ⟨h, -⟩ :=
    writeReg_cases b (0x10#6 + BitVec.ofNat 6 i.val) v
  iterate 6 · exact absurd h (hne (by decide))
  · obtain rfl : j = i := by omega
    exact e
  · omega

/-- With FLEN = 16 and a right trailer, a host write that inverts one bit of FB makes DECODE report the checksum. -/
theorem decodeFrame_writeReg_flip {b : Block} {cfg : Cfg} (hcfg : detectsSingleBit cfg.checksum)
    (hlen : b.flen = 16#8) (hck : frameChecksum cfg b.fb = trailer b.fb) (i : Fin 16) (k : Fin 8) :
    decodeFrame cfg (writeReg b (0x10#6 + BitVec.ofNat 6 i.val) (b.fb[i] ^^^ BitVec.twoPow 8 k)) =
      { b with fb := flipBit b.fb i k, decStatus := .invalidChecksum, cmdResult := .failure } := by
  rw [writeReg_fb]
  exact decodeFrame_of_checksum_ne hlen (frameChecksum_flipBit_ne hcfg hck i k)

/-- Settles O17: the trailer that the write disturbs is right because ENCODE has just written it. -/
theorem checksumSensitivity : Obligations.ChecksumSensitivity := by
  unfold Obligations.ChecksumSensitivity
  intro s i k hlen
  refine ⟨_, _, _, exec_encode s, exec_regWrite _ _ _, exec_decode _, ?_⟩
  have hdec := decodeFrame_writeReg_flip (b := encodeFrame Config.cfg s.block) Config.cfg_legal.checksum_single hlen
    (frameChecksum_encodeFrame Config.cfg s.block) i k
  exact ⟨congrArg Block.decStatus hdec, congrArg Block.cmdResult hdec⟩

/-! ### The default checksum (R101)

Each stage of the CRC is injective, so two messages that differ in one byte never meet again. -/

/-- The polynomial 0x1021 has its lowest bit set, so the bit shifted out comes back at the bottom. -/
theorem getLsbD_zero_crcBit (c : BitVec 16) : (crcBit c).getLsbD 0 = c.getLsbD 15 := by
  unfold crcBit
  split <;> simp_all

theorem crcBit_injective : Function.Injective crcBit := by
  intro c d h
  have htop : c.getLsbD 15 = d.getLsbD 15 := by
    rw [← getLsbD_zero_crcBit, h, getLsbD_zero_crcBit]
  have hshift : c <<< 1 = d <<< 1 := by
    unfold crcBit at h
    rw [htop] at h
    split at h
    · exact (BitVec.xor_left_inj _).mp h
    · exact h
  ext i hi
  obtain rfl | hi' : i = 15 ∨ i < 15 := by omega
  · simpa using htop
  · have hlt : i + 1 < 16 := by omega
    simpa [hlt] using congrArg (·.getLsbD (i + 1)) hshift

theorem crcByte_eq (c : BitVec 16) (v : Byte) : crcByte c v = crcBit^[8] (c ^^^ (v.setWidth 16 <<< 8)) := rfl

theorem crcByte_left_injective (v : Byte) : Function.Injective (crcByte · v) := by
  intro c d h
  simp only [crcByte_eq] at h
  exact (BitVec.xor_left_inj _).mp (crcBit_injective.iterate 8 h)

theorem crcByte_right_injective (c : BitVec 16) : Function.Injective (crcByte c) := by
  intro v w h
  simp only [crcByte_eq] at h
  have hshift : v.setWidth 16 <<< 8 = w.setWidth 16 <<< 8 := (BitVec.xor_right_inj _).mp (crcBit_injective.iterate 8 h)
  bv_omega

theorem foldl_crcByte_injective (l : List Byte) : Function.Injective (fun c => l.foldl crcByte c) := by
  induction l with
  | nil => exact Function.injective_id
  | cons v l ih => exact ih.comp (crcByte_left_injective v)

/-- Any change of one byte changes the CRC, not only that of a single bit. -/
theorem crcList_set_inj {l : List Byte} {i : Nat} (hi : i < l.length) {v w : Byte} :
    crcList (l.set i v) = crcList (l.set i w) ↔ v = w := by
  refine ⟨fun h => ?_, fun h => h ▸ rfl⟩
  simp only [crcList, List.set_eq_take_append_cons_drop, if_pos hi, List.foldl_append, List.foldl_cons] at h
  exact crcByte_right_injective _ (foldl_crcByte_injective _ h)

/-- Settles O18: an inverted bit is a change of one byte. -/
theorem defaultChecksumDetectsSingleBit : Obligations.DefaultChecksumDetectsSingleBit := by
  unfold Obligations.DefaultChecksumDetectsSingleBit
  intro B i k h
  have hself : B.toList.set i B[i] = B.toList := List.set_getElem_self (by simp)
  have hset : crcList (B.toList.set i (B[i] ^^^ BitVec.twoPow 8 k)) = crcList (B.toList.set i B[i]) := by
    rw [hself]
    simpa [defaultChecksum, Vector.toList_set] using h
  exact xor_twoPow_ne_self B[i] k ((crcList_set_inj (by simp)).mp hset)

/-! ### The receive predicate (R110 to R112) -/

theorem addrMatch_iff (cfg : Cfg) (b : Block) (D : Frame) :
    addrMatch cfg b D = true ↔ D[0] = cfg.broadcastType ∨ (D[0] = b.myType ∧ D[1] = b.myId) := by
  simp [addrMatch, dstType, dstId]

theorem accept_iff (cfg : Cfg) (b : Block) (len : Byte) (D : Frame) :
    accept cfg b len D = true ↔
      len = 16#8 ∧ frameChecksum cfg D = trailer D ∧ addrMatch cfg b D = true := by
  simp [accept, and_assoc]

/-- Settles O41: the three checks, one by one. -/
theorem acceptPredicate : Obligations.AcceptPredicate := by
  unfold Obligations.AcceptPredicate
  intro cfg b len D
  have hlen : len = 16#8 ↔ len.toNat = 16 := BitVec.toNat_inj.symm
  rw [accept_iff, addrMatch_iff, hlen]
  rfl

end Sys2Proof.Machine
end

section
/-! The statements of 41_host_ops.md: register writes and reads (R130, R131), the commands (R132 to R138), and the slot
of the pending transmission, which a start command fills and a completion frees (R139, R140). -/

namespace Sys2Proof.Machine

/-! ### Register writes and reads (R130, R131) -/

/-- Settles O19: an equation of `writeReg` for each register, FB byte by byte, and one for the addresses that a host
cannot write. -/
theorem registerWriteResult : Obligations.RegisterWriteResult := by
  unfold Obligations.RegisterWriteResult
  refine ⟨fun a v ha => ?_, fun s v => ⟨rfl, rfl, rfl, rfl, rfl, rfl, fun i => ?_, fun a ha => ?_⟩⟩
  · rw [decode_hostWriteWord, hostWriteOf_of_ne ha]
  · rw [exec_regWrite, writeReg_fb]; rfl
  · rw [exec_regWrite, writeReg_readOnly s.block v (ha.imp_left And.right)]; rfl

/-- The word of a host read as R74 and R75 lay it out: KIND 2, ADDR. -/
theorem encode_regRead_eq (a : BitVec 6) : encode (.regRead a) = 0x20000000#32 ||| a.setWidth 32 <<< 22 := by
  simp [Sys2Proof.encode, eventWord]

/-- CMD and the two reserved addresses of the single registers read as 0x00 (R55). -/
theorem readReg_of_no_field (b : Block) {a : BitVec 6} (ha : a = 0x00#6 ∨ a = 0x0E#6 ∨ a = 0x0F#6) :
    readReg b a = 0x00#8 := by
  obtain rfl | rfl | rfl := ha <;> rfl

/-- Settles O22. -/
theorem registerReadResult : Obligations.RegisterReadResult := by
  unfold Obligations.RegisterReadResult
  refine ⟨fun a => ?_, fun s a => ⟨exec_regRead s a, readReg_of_no_field s.block⟩⟩
  rw [← encode_regRead_eq, decode_encode (i := .regRead a) rfl]

/-! ### The dispatch of a write to CMD (R132) -/

/-- The word of a write of `c` to CMD spells the command of code `c`. -/
theorem decode_cmdWriteWord (c : Byte) : decode (0x10000000#32 ||| c.setWidth 32 <<< 14) = .ok (commandOf c) := by
  simpa using decode_hostWriteWord 0#6 c

/-- The table of R132. -/
theorem commandOf_eq_ite (c : Byte) :
    commandOf c = if c = 0#8 then .nop else if c = 1#8 then .encode else if c = 2#8 then .decode
      else if c = 3#8 then .startTx else if c = 4#8 then .startTxReply else if c = 5#8 then .ackDone
      else if c = 6#8 then .rxAck else .cmdReserved c := by
  obtain rfl | rfl | rfl | rfl | rfl | rfl | rfl | h := commandCode_cases c
  iterate 7 · rfl
  · have hne {k : Byte} (hk : k.toNat < 7) : c ≠ k := by
      rintro rfl
      omega
    rw [commandOf_reserved h]
    simp [hne]

/-! ### What each command leaves in CMD_RESULT (R201) -/

theorem startTransmit_cmdResult (reply : Bool) (n : Byte) (now : Word) (b : Block) :
    (startTransmit reply n now b).cmdResult = if b.state = .idle then .success else .busy := by
  by_cases hb : b.state = .idle
  · rw [startTransmit_idle reply n now b hb, if_pos hb]
  · rw [startTransmit_busy reply n now b hb, if_neg hb]

theorem decodeFrame_cmdResult (cfg : Cfg) (b : Block) :
    (decodeFrame cfg b).cmdResult = if (decodeFrame cfg b).decStatus = .ok then .success else .failure := rfl

/-- The code that R201 gives a command, from STATE before it and DEC_STATUS after it. -/
def commandResult (st : TransportState) (dec : DecStatus) : Instr → Result
  | .startTx | .startTxReply => if st = .idle then .success else .busy
  | .decode => if dec = .ok then .success else .failure
  | .cmdReserved _ => .illegal
  | _ => .success

/-- After a command CMD_RESULT holds the code of R201. -/
theorem exec_command_cmdResult {i : Instr} {s t : State} (hx : exec i s = .next t) (hi : isCommand i = true) :
    t.block.cmdResult = commandResult s.block.state t.block.decStatus i := by
  cases i <;> cases hx
  case startTx => exact startTransmit_cmdResult false 0#8 s.now s.block
  case startTxReply => exact startTransmit_cmdResult true s.block.replyRetries s.now s.block
  case decode => exact decodeFrame_cmdResult Config.cfg s.block
  case cmdReserved | nop | encode | ackDone | rxAck => rfl
  all_goals cases hi

section
variable (st : TransportState) (dec : DecStatus) (i : Instr)

theorem commandResult_eq_busy_iff :
    commandResult st dec i = .busy ↔ (i = .startTx ∨ i = .startTxReply) ∧ st ≠ .idle := by
  cases i <;> simp [commandResult, ite_eq_iff]

theorem commandResult_eq_failure_iff : commandResult st dec i = .failure ↔ i = .decode ∧ dec ≠ .ok := by
  cases i <;> simp [commandResult, ite_eq_iff]

theorem commandResult_eq_illegal_iff : commandResult st dec i = .illegal ↔ ∃ c, i = .cmdReserved c := by
  cases i <;> simp [commandResult, ite_eq_iff]

end

/-- Settles O23: the dispatch by the table of R132, CMD_RESULT by that of R201. -/
theorem commandDispatch : Obligations.CommandDispatch := by
  unfold Obligations.CommandDispatch
  refine ⟨fun c => ⟨_, decode_cmdWriteWord c, isCommand_commandOf c, commandOf_eq_ite c⟩, fun i s t hx hcmd hreset => ?_,
    fun i s t hx hcmd => ?_⟩
  · refine (exec_cmdResult_cases hx).resolve_right ?_
    simp [hcmd, hreset]
  · rw [exec_command_cmdResult hx hcmd]
    exact ⟨commandResult_eq_busy_iff _ _ i, commandResult_eq_failure_iff _ _ i, commandResult_eq_illegal_iff _ _ i,
      readReg_of_no_field t.block (.inl rfl)⟩

/-! ### The commands one by one (R133 to R139) -/

/-- Settles O24. -/
theorem nopResult : Obligations.NopResult := by
  unfold Obligations.NopResult
  exact ⟨decode_encode (i := .nop) rfl, exec_nop⟩

/-- Settles O30: both start commands are `startTransmit`, which turns them away where the slot is occupied. -/
theorem busyStartChangesNothing : Obligations.BusyStartChangesNothing := by
  unfold Obligations.BusyStartChangesNothing
  rintro s i hs (rfl | rfl)
  · rw [exec_startTx, startTransmit_busy _ _ _ _ hs]; rfl
  · rw [exec_startTxReply, startTransmit_busy _ _ _ _ hs]; rfl

/-- Settles O25: the busy case is O30. -/
theorem startTxResult : Obligations.StartTxResult := by
  unfold Obligations.StartTxResult
  refine ⟨decode_encode (i := .startTx) rfl, fun s => ⟨fun hs => ?_, fun hs => ?_⟩⟩
  · exact busyStartChangesNothing s .startTx hs (.inl rfl)
  · rw [exec_startTx, startTransmit_idle _ _ _ _ hs]; rfl

/-- Settles O26: the busy case is O30. -/
theorem startTxReplyResult : Obligations.StartTxReplyResult := by
  unfold Obligations.StartTxReplyResult
  refine ⟨decode_encode (i := .startTxReply) rfl, fun s => ⟨fun hs => ?_, fun hs => ?_⟩⟩
  · exact busyStartChangesNothing s .startTxReply hs (.inr rfl)
  · rw [exec_startTxReply, startTransmit_idle _ _ _ _ hs]; rfl

/-- Settles O27. -/
theorem ackDoneResult : Obligations.AckDoneResult := by
  unfold Obligations.AckDoneResult
  exact ⟨decode_encode (i := .ackDone) rfl, exec_ackDone⟩

/-- Settles O28. -/
theorem rxAckResult : Obligations.RxAckResult := by
  unfold Obligations.RxAckResult
  exact ⟨decode_encode (i := .rxAck) rfl, exec_rxAck⟩

/-- Settles O29. -/
theorem reservedCommandResult : Obligations.ReservedCommandResult := by
  unfold Obligations.ReservedCommandResult
  intro c hc
  refine ⟨?_, fun s => exec_cmdReserved s c⟩
  rw [decode_cmdWriteWord, commandOf_reserved (BitVec.le_def.mp hc)]

/-! ### The slot of the pending transmission (R140, R170)

From a block to the next the slot is kept, freed by a completion or filled by a start command. RESET alone does
otherwise. -/

/-- The slot is as free or as occupied as it was, with what it holds. -/
def keepsSlot (b c : Block) : Prop :=
  (c.state = .idle ↔ b.state = .idle) ∧ c.txFrame = b.txFrame ∧ c.tag = b.tag ∧ c.replyReq = b.replyReq

/-- A completion freed the slot and reported its TAG (R170). -/
def completesSlot (b c : Block) : Prop :=
  b.state ≠ .idle ∧ c.state = .idle ∧ c.done = true ∧ c.compTag = b.tag

/-- A start command found the slot free and filled it (R134, R135). -/
def fillsSlot (b c : Block) : Prop :=
  b.state = .idle ∧ c.state = .waitAirwayFree ∧ c.cmdResult = .success

theorem keepsSlot_refl (b : Block) : keepsSlot b b := ⟨.rfl, rfl, rfl, rfl⟩

theorem completesSlot_complete {b : Block} (hb : b.state ≠ .idle) (r : Result) (rep : Bool) :
    completesSlot b (complete r rep b) :=
  ⟨hb, rfl, rfl, rfl⟩

theorem state_ne_idle_of_reply_wait {b : Block} (hb : b.state = .rxWait ∨ b.state = .rxBusy) : b.state ≠ .idle := by
  rcases hb with hb | hb <;> simp [hb]

theorem writeReg_keepsSlot (b : Block) (a : BitVec 6) (v : Byte) : keepsSlot b (writeReg b a v) := by
  obtain ⟨-, e⟩ | ⟨-, e⟩ | ⟨-, e⟩ | ⟨-, e⟩ | ⟨-, e⟩ | ⟨-, e⟩ | ⟨_, -, e⟩ | ⟨-, e⟩ := writeReg_cases b a v <;>
    rw [e] <;> exact keepsSlot_refl b

theorem startTransmit_slot (reply : Bool) (n : Byte) (now : Word) (b : Block) :
    keepsSlot b (startTransmit reply n now b) ∨ fillsSlot b (startTransmit reply n now b) := by
  by_cases hb : b.state = .idle
  · rw [startTransmit_idle reply n now b hb]; exact .inr ⟨hb, rfl, rfl⟩
  · rw [startTransmit_busy reply n now b hb]; exact .inl (keepsSlot_refl b)

theorem tick_slot (cfg : Cfg) (cd : Bool) (now : Word) (b : Block) :
    keepsSlot b (tick cfg cd now b).1 ∨ completesSlot b (tick cfg cd now b).1 := by
  obtain e | ⟨hs, -, e⟩ | ⟨hs, -, -, e⟩ | ⟨hs, -, -, e⟩ | ⟨hs, -, -, e⟩ := tick_cases cfg cd now b <;> rw [e]
  · exact .inl (keepsSlot_refl b)
  · exact .inl ⟨by simp [hs], rfl, rfl, rfl⟩
  · exact .inr (completesSlot_complete (by simp [hs]) _ _)
  · exact .inl ⟨by simp [state_ne_idle_of_reply_wait hs], rfl, rfl, rfl⟩
  · exact .inr (completesSlot_complete (state_ne_idle_of_reply_wait hs) _ _)

theorem transmitDone_slot (now : Word) (b : Block) :
    keepsSlot b (transmitDone now b).1 ∨ completesSlot b (transmitDone now b).1 := by
  obtain ⟨-, e⟩ | ⟨-, -, e⟩ | ⟨hs, -, -, e⟩ | ⟨hs, -, -, e⟩ := transmitDone_cases now b <;> rw [e]
  · exact .inl (keepsSlot_refl b)
  · exact .inl (keepsSlot_refl b)
  · exact .inl ⟨by simp [hs], rfl, rfl, rfl⟩
  · exact .inr (completesSlot_complete (by simp [hs]) _ _)

theorem receiveStart_keepsSlot (b : Block) : keepsSlot b (receiveStart b) := by
  obtain ⟨-, e⟩ | ⟨hs, e⟩ := receiveStart_cases b <;> rw [e]
  · exact keepsSlot_refl b
  · exact ⟨by simp [hs], rfl, rfl, rfl⟩

theorem receiveDone_slot (cfg : Cfg) (len : Byte) (D : Frame) (b : Block) :
    keepsSlot b (receiveDone cfg len D b) ∨ completesSlot b (receiveDone cfg len D b) := by
  obtain ⟨-, e⟩ | ⟨-, -, e⟩ | ⟨hs, -, e⟩ := receiveDone_cases cfg len D b <;> rw [e]
  · exact .inl (keepsSlot_refl b)
  · exact .inl (keepsSlot_refl b)
  · exact .inr (completesSlot_complete (b := forward D b) (state_ne_idle_of_reply_wait hs) _ _)

/-- What an instruction does to the slot. -/
theorem exec_slot_cases {i : Instr} {s t : State} (hx : exec i s = .next t) :
    (keepsSlot s.block t.block ∨ completesSlot s.block t.block) ∨
    ((i = .startTx ∨ i = .startTxReply) ∧ fillsSlot s.block t.block) ∨ i = .reset := by
  cases i <;> cases hx
  case tick cd => exact .inl (tick_slot Config.cfg cd s.now s.block)
  case txDone => exact .inl (transmitDone_slot s.now s.block)
  case rxDone len => exact .inl (receiveDone_slot Config.cfg len s.rxData s.block)
  case rxStart => exact .inl (.inl (receiveStart_keepsSlot s.block))
  case regWrite a v => exact .inl (.inl (writeReg_keepsSlot s.block a v))
  case startTx =>
    exact (startTransmit_slot false 0#8 s.now s.block).imp .inl fun h => .inl ⟨.inl rfl, h⟩
  case startTxReply =>
    exact (startTransmit_slot true s.block.replyRetries s.now s.block).imp .inl fun h => .inl ⟨.inr rfl, h⟩
  case reset => exact .inr (.inr rfl)
  case cmdReserved | nop | encode | decode | ackDone | rxAck | regRead => exact .inl (.inl (keepsSlot_refl s.block))

/-- Settles O31: a slot kept changes neither way, and RESET leaves STATE at Idle. -/
theorem slotHeldUntilCompletion : Obligations.SlotHeldUntilCompletion := by
  unfold Obligations.SlotHeldUntilCompletion
  intro i s t hx
  obtain (⟨hidle, hkept⟩ | ⟨hs, ht, hcomp⟩) | ⟨hi, hs, ht, hres⟩ | rfl := exec_slot_cases hx
  · exact ⟨fun hs ht => absurd (hidle.mp ht) hs, fun hs ht => absurd (hidle.mpr hs) ht, fun _ _ => hkept⟩
  · exact ⟨fun _ _ => .inr hcomp, fun h => absurd h hs, fun _ h => absurd ht h⟩
  · exact ⟨fun h => absurd hs h, fun _ _ => ⟨hi, ht, hres⟩, fun h => absurd hs h⟩
  · cases hx
    exact ⟨fun _ _ => .inl rfl, fun _ h => absurd rfl h, fun _ h => absurd rfl h⟩

end Sys2Proof.Machine
end

section
/-! The statements of 42_transport_events.md: TICK, TX_DONE, RX_START and RX_DONE (R161 to R168), the transition table
(R171), and the bounds on what an occupied slot sends and on how long it stays occupied (R172 to R174). -/

namespace Sys2Proof.Machine

/-! ### The transport events, STATE by STATE -/

section
variable (cfg : Cfg) (cd : Bool) (now : Word) {b : Block}

theorem tick_ignored (hb : b.state = .idle ∨ b.state = .txBusy) : tick cfg cd now b = (b, none) := by
  rcases hb with hb | hb <;> simp [tick, hb]

theorem tick_clearChannel (hb : b.state = .waitAirwayFree) :
    tick cfg false now b = ({ b with repeatsLeft := cfg.txRepeat - 1#8, state := .txBusy }, some b.txFrame) := by
  simp [tick, hb]

theorem tick_busyChannel (hb : b.state = .waitAirwayFree) :
    tick cfg true now b =
      (if expired cfg.airwayTimeoutMs now b.airTs then complete .failure false b else b, none) := by
  simp only [tick, hb, if_true]
  split <;> rfl

theorem tick_replyWait (hb : b.state = .rxWait ∨ b.state = .rxBusy) :
    tick cfg cd now b =
      (if expired cfg.replyTimeoutMs now b.sendTs then
        if 0#8 < b.retriesLeft then
          { b with retriesLeft := b.retriesLeft - 1#8, airTs := now, state := .waitAirwayFree }
        else complete .failure false b
      else b, none) := by
  rcases hb with hb | hb <;> simp only [tick, hb] <;> split_ifs <;> rfl

theorem transmitDone_ignored (hb : b.state ≠ .txBusy) : transmitDone now b = (b, none) := by
  obtain ⟨-, e⟩ | ⟨hs, -⟩ | ⟨hs, -⟩ | ⟨hs, -⟩ := transmitDone_cases now b
  · exact e
  all_goals exact absurd hs hb

theorem transmitDone_txBusy (hb : b.state = .txBusy) :
    transmitDone now b =
      if 0#8 < b.repeatsLeft then ({ b with repeatsLeft := b.repeatsLeft - 1#8 }, some b.txFrame)
      else if b.replyReq then ({ b with sendTs := now, state := .rxWait }, none)
      else (complete .success false b, none) := by
  simp only [transmitDone, hb]

variable (len : Byte) (D : Frame)

theorem receiveDone_dropped (h : b.state = .txBusy ∨ ¬ accept cfg b len D = true) : receiveDone cfg len D b = b := by
  obtain ⟨-, e⟩ | ⟨hs, hacc, -⟩ | ⟨hs, hacc, -⟩ := receiveDone_cases cfg len D b
  · exact e
  all_goals
    have hbusy := h.resolve_right (not_not_intro hacc)
    simp [hbusy] at hs

theorem receiveDone_forwarded (hb : b.state = .idle ∨ b.state = .waitAirwayFree) (hacc : accept cfg b len D = true) :
    receiveDone cfg len D b = forward D b := by
  rcases hb with hb | hb <;> simp [receiveDone, hb, hacc]

theorem receiveDone_completed (hb : b.state = .rxWait ∨ b.state = .rxBusy) (hacc : accept cfg b len D = true) :
    receiveDone cfg len D b = complete .success true (forward D b) := by
  rcases hb with hb | hb <;> simp [receiveDone, hb, hacc]

end

/-- `frameAccepted` says of the machine's configuration what `accept` computes (R112). -/
theorem accept_iff_frameAccepted (b : Block) (len : Byte) (D : Frame) :
    accept Config.cfg b len D = true ↔ frameAccepted b len D := by
  rw [accept_iff, addrMatch_iff]
  rfl

/-- The timeout check over the natural numbers, as the rules write it (R163, R164). -/
theorem expired_iff_toNat (limit now stamp : Word) :
    expired limit now stamp = true ↔ limit.toNat < (now.toNat + 2 ^ 32 - stamp.toNat) % 2 ^ 32 := by
  have hdiff : (now - stamp).toNat = (now.toNat + 2 ^ 32 - stamp.toNat) % 2 ^ 32 := by
    rw [BitVec.toNat_sub]
    congr 1
    omega
  rw [expired_iff, BitVec.lt_def, hdiff]

theorem toNat_pred_add_one {x : Byte} (hx : 0#8 < x) : (x - 1#8).toNat + 1 = x.toNat := by
  bv_omega

theorem ofNat_toNat_pred {x : Byte} (hx : 0#8 < x) : BitVec.ofNat 8 (x.toNat - 1) = x - 1#8 := by
  rw [← toNat_pred_add_one hx, Nat.add_sub_cancel, BitVec.ofNat_toNat, BitVec.setWidth_eq]

/-! ### The transition table (R171)

An instruction keeps STATE and the two counters of the slot and sends nothing, or it is a row of the table. The rows do
not say what becomes of RETRIES_LEFT in an attempt; R173 rests on its not being written there. -/

/-- Nothing was sent, and STATE, RETRIES_LEFT and REPEATS_LEFT are as they were. -/
def keepsTransport (s t : State) : Prop :=
  t.sent = none ∧ t.block.state = s.block.state ∧ t.block.retriesLeft = s.block.retriesLeft ∧
    t.block.repeatsLeft = s.block.repeatsLeft

/-- RETRIES_LEFT is written only on the way into Idle or WaitAirwayFree (R173). -/
def keepsRetries (s t : State) : Prop :=
  t.block.state ≠ .idle → t.block.state ≠ .waitAirwayFree → t.block.retriesLeft = s.block.retriesLeft

/-- The two things that the table leaves possible. -/
def keepsOrTransition (i : Instr) (s t : State) : Prop :=
  keepsTransport s t ∨ (TransitionRow s t i ∧ keepsRetries s t)

section
variable {i : Instr} {s t : State}

theorem keepsOrTransition_of_kept (hsent : t.sent = none)
    (hkept : (t.block.state, t.block.retriesLeft, t.block.repeatsLeft) =
      (s.block.state, s.block.retriesLeft, s.block.repeatsLeft)) : keepsOrTransition i s t := by
  simp only [Prod.mk.injEq] at hkept
  exact .inl ⟨hsent, hkept⟩

theorem keepsRetries_of_idle (h : t.block.state = .idle) : keepsRetries s t := fun hidle _ => absurd h hidle

theorem keepsRetries_of_waitAirwayFree (h : t.block.state = .waitAirwayFree) : keepsRetries s t :=
  fun _ hwait => absurd h hwait

theorem completed_of_block_eq {r : Result} {rep : Bool} (h : t.block = complete r rep s.block) :
    completed s t r rep := by
  simp [completed, h]

theorem idle_of_completed {r : Result} {rep : Bool} (h : completed s t r rep) : t.block.state = .idle := by
  obtain ⟨-, -, -, -, hidle, -⟩ := h
  exact hidle

end

section
variable (s : State)

theorem writeReg_keeps (b : Block) (a : BitVec 6) (v : Byte) :
    ((writeReg b a v).state, (writeReg b a v).retriesLeft, (writeReg b a v).repeatsLeft) =
      (b.state, b.retriesLeft, b.repeatsLeft) := by
  have hfields := invFields_writeReg b a v
  simp only [invFields, Prod.mk.injEq] at hfields ⊢
  obtain ⟨hstate, -, hretries, hrepeats, -⟩ := hfields
  exact ⟨hstate, hretries, hrepeats⟩

/-- A start command fills a free slot, which `hrow` makes a row of the table. -/
theorem startTransmit_transition {reply : Bool} {n : Byte} {i : Instr}
    (hrow : ∀ t : State, s.block.state = .idle → slotLoaded s t reply n → t.block.cmdResult = .success →
      t.sent = none → TransitionRow s t i) :
    keepsOrTransition i s (quiet s (startTransmit reply n s.now s.block)) := by
  by_cases hs : s.block.state = .idle
  · rw [startTransmit_idle _ _ _ _ hs]
    exact .inr ⟨hrow _ hs ⟨rfl, rfl, rfl, rfl, rfl, rfl, rfl, rfl⟩ rfl rfl, keepsRetries_of_waitAirwayFree rfl⟩
  · rw [startTransmit_busy _ _ _ _ hs]
    exact keepsOrTransition_of_kept rfl rfl

theorem tick_transition (cd : Bool) : keepsOrTransition (.tick cd) s (emit s (tick Config.cfg cd s.now s.block)) := by
  obtain e | ⟨hs, rfl, e⟩ | ⟨hs, rfl, hexp, e⟩ | ⟨hs, hexp, hleft, e⟩ | ⟨hs, hexp, hzero, e⟩ :=
    tick_cases Config.cfg cd s.now s.block <;> rw [e]
  · exact keepsOrTransition_of_kept rfl rfl
  · exact .inr ⟨.clearChannel hs rfl rfl rfl, fun _ _ => rfl⟩
  · exact .inr ⟨.airwayDeadline hs ((expired_iff _ _ _).mp hexp) (completed_of_block_eq rfl) rfl,
      keepsRetries_of_idle rfl⟩
  · exact .inr ⟨.retry cd hs ((expired_iff _ _ _).mp hexp) hleft rfl rfl rfl rfl, keepsRetries_of_waitAirwayFree rfl⟩
  · exact .inr ⟨.retriesExhausted cd hs ((expired_iff _ _ _).mp hexp) hzero (completed_of_block_eq rfl) rfl,
      keepsRetries_of_idle rfl⟩

theorem txDone_transition : keepsOrTransition .txDone s (emit s (transmitDone s.now s.block)) := by
  obtain ⟨-, e⟩ | ⟨hs, hleft, e⟩ | ⟨hs, hzero, hreply, e⟩ | ⟨hs, hzero, hreply, e⟩ :=
    transmitDone_cases s.now s.block <;> rw [e]
  · exact keepsOrTransition_of_kept rfl rfl
  · exact .inr ⟨.nextRepeat hs hleft hs rfl rfl, fun _ _ => rfl⟩
  · exact .inr ⟨.replyWait hs hzero hreply rfl rfl rfl, fun _ _ => rfl⟩
  · exact .inr ⟨.sentWithoutReply hs hzero hreply (completed_of_block_eq rfl) rfl, keepsRetries_of_idle rfl⟩

theorem rxStart_transition : keepsOrTransition .rxStart s (quiet s (receiveStart s.block)) := by
  obtain ⟨-, e⟩ | ⟨hs, e⟩ := receiveStart_cases s.block <;> rw [e]
  · exact keepsOrTransition_of_kept rfl rfl
  · exact .inr ⟨.receptionBegins hs rfl rfl, fun _ _ => rfl⟩

theorem rxDone_transition (len : Byte) :
    keepsOrTransition (.rxDone len) s (quiet s (receiveDone Config.cfg len s.rxData s.block)) := by
  obtain ⟨-, e⟩ | ⟨-, -, e⟩ | ⟨hs, hacc, e⟩ := receiveDone_cases Config.cfg len s.rxData s.block <;> rw [e]
  · exact keepsOrTransition_of_kept rfl rfl
  · exact keepsOrTransition_of_kept rfl rfl
  · exact .inr ⟨.reply len hs ((accept_iff_frameAccepted _ _ _).mp hacc) rfl rfl (by simp [completed]) rfl,
      keepsRetries_of_idle rfl⟩

end

theorem exec_transition_cases {i : Instr} {s t : State} (hx : exec i s = .next t) : keepsOrTransition i s t := by
  cases i <;> cases hx
  case tick cd => exact tick_transition s cd
  case startTx => exact startTransmit_transition s fun _ => .startTx
  case startTxReply => exact startTransmit_transition s fun _ => .startTxReply
  case txDone => exact txDone_transition s
  case rxStart => exact rxStart_transition s
  case rxDone len => exact rxDone_transition s len
  case reset => exact .inr ⟨.reset rfl rfl, keepsRetries_of_idle rfl⟩
  case regWrite a v => exact keepsOrTransition_of_kept rfl (writeReg_keeps s.block a v)
  case cmdReserved | nop | encode | decode | ackDone | rxAck | regRead => exact keepsOrTransition_of_kept rfl rfl

/-- Settles O44. -/
theorem transitionTable : Obligations.TransitionTable := by
  unfold Obligations.TransitionTable
  intro i s t hx hmoves
  obtain ⟨hsent, hstate, -⟩ | ⟨hrow, -⟩ := exec_transition_cases hx
  · exact absurd hmoves (by simp [hsent, hstate])
  · exact hrow

/-! ### What a step does to an occupied slot

The table once more, from an occupied slot and with natural numbers for the counters: what the bounds of R172 to R174
count. -/

/-- The attempts that the slot can still begin (R173): one for each retry left, and the one that waits for a clear
channel. -/
def attemptsLeft (b : Block) : Nat :=
  match b.state with
  | .idle => 0
  | .waitAirwayFree => b.retriesLeft.toNat + 1
  | .txBusy | .rxWait | .rxBusy => b.retriesLeft.toNat

section
variable {b : Block}

theorem attemptsLeft_idle (hb : b.state = .idle) : attemptsLeft b = 0 := by simp [attemptsLeft, hb]

theorem attemptsLeft_waitAirwayFree (hb : b.state = .waitAirwayFree) : attemptsLeft b = b.retriesLeft.toNat + 1 := by
  simp [attemptsLeft, hb]

theorem attemptsLeft_txBusy (hb : b.state = .txBusy) : attemptsLeft b = b.retriesLeft.toNat := by
  simp [attemptsLeft, hb]

theorem attemptsLeft_replyWait (hb : b.state = .rxWait ∨ b.state = .rxBusy) : attemptsLeft b = b.retriesLeft.toNat := by
  rcases hb with hb | hb <;> simp [attemptsLeft, hb]

end

/-- The ways from an occupied slot `b` to the block `c` after one step, with what the step sends. -/
inductive SlotMove (b c : Block) : Option Frame → Prop where
  | stays : c.state = b.state → attemptsLeft c = attemptsLeft b → c.repeatsLeft = b.repeatsLeft → SlotMove b c none
  | freed : c.state = .idle → SlotMove b c none
  | attemptBegins : b.state = .waitAirwayFree → c.state = .txBusy → attemptsLeft c + 1 = attemptsLeft b →
      c.repeatsLeft.toNat + 1 = Config.cfg.txRepeat.toNat → SlotMove b c (some b.txFrame)
  | nextRepeat : b.state = .txBusy → c.state = .txBusy → attemptsLeft c = attemptsLeft b →
      c.repeatsLeft.toNat + 1 = b.repeatsLeft.toNat → SlotMove b c (some b.txFrame)
  | replyWait : b.state = .txBusy → c.state = .rxWait → attemptsLeft c = attemptsLeft b → SlotMove b c none
  | receptionBegins : b.state = .rxWait → c.state = .rxBusy → attemptsLeft c = attemptsLeft b → SlotMove b c none
  | retry : b.state = .rxWait ∨ b.state = .rxBusy → c.state = .waitAirwayFree → attemptsLeft c = attemptsLeft b →
      SlotMove b c none

section
variable {i : Instr} {s t : State}

theorem slotMove_of_keepsTransport (h : keepsTransport s t) : SlotMove s.block t.block t.sent := by
  obtain ⟨hsent, hstate, hretries, hrepeats⟩ := h
  rw [hsent]
  exact .stays hstate (by simp [attemptsLeft, hstate, hretries]) hrepeats

theorem slotMove_of_transitionRow (hs : s.block.state ≠ .idle) (hrow : TransitionRow s t i) (hkept : keepsRetries s t) :
    SlotMove s.block t.block t.sent := by
  cases hrow
  case startTx h _ _ _ | startTxReply h _ _ _ => exact absurd h hs
  case clearChannel hwait hbusy hsent hrepeats =>
    rw [hsent]
    refine .attemptBegins hwait hbusy ?_ ?_
    · rw [attemptsLeft_txBusy hbusy, attemptsLeft_waitAirwayFree hwait, hkept (by simp [hbusy]) (by simp [hbusy])]
    · rw [hrepeats, txRepeat_pred_add_one]
  case nextRepeat hbusy hleft hbusy' hsent hrepeats =>
    rw [hsent]
    refine .nextRepeat hbusy hbusy' ?_ ?_
    · rw [attemptsLeft_txBusy hbusy', attemptsLeft_txBusy hbusy, hkept (by simp [hbusy']) (by simp [hbusy'])]
    · rw [hrepeats, toNat_pred_add_one hleft]
  case replyWait hbusy _ _ hwait _ hsent =>
    rw [hsent]
    refine .replyWait hbusy hwait ?_
    rw [attemptsLeft_replyWait (.inl hwait), attemptsLeft_txBusy hbusy, hkept (by simp [hwait]) (by simp [hwait])]
  case receptionBegins hwait hbusy hsent =>
    rw [hsent]
    refine .receptionBegins hwait hbusy ?_
    rw [attemptsLeft_replyWait (.inr hbusy), attemptsLeft_replyWait (.inl hwait),
      hkept (by simp [hbusy]) (by simp [hbusy])]
  case retry _ hwait _ hleft hair hretries _ hsent =>
    rw [hsent]
    refine .retry hwait hair ?_
    rw [attemptsLeft_waitAirwayFree hair, attemptsLeft_replyWait hwait, hretries, toNat_pred_add_one hleft]
  case airwayDeadline _ _ hcompl hsent | sentWithoutReply _ _ _ hcompl hsent | reply _ _ _ _ _ hcompl hsent |
      retriesExhausted _ _ _ _ hcompl hsent =>
    exact hsent ▸ .freed (idle_of_completed hcompl)
  case reset hblock hsent => exact hsent ▸ .freed (by simp [hblock])

theorem step_slotMove (hs : s.block.state ≠ .idle) (hstep : step s = .next t) : SlotMove s.block t.block t.sent := by
  obtain ⟨-, rfl⟩ | ⟨e, rest, i, -, -, hx⟩ := step_cases s t hstep
  · exact slotMove_of_keepsTransport ⟨rfl, rfl, rfl, rfl⟩
  · obtain hkept | ⟨hrow, hkept⟩ := exec_transition_cases hx
    · exact slotMove_of_keepsTransport (s := sample s e rest) hkept
    · exact slotMove_of_transitionRow (s := sample s e rest) hs hrow hkept

end

/-! ### Progress (R174) -/

section
variable {s t : State}

/-- The next event is one that R174 asks for, said as a relation. -/
theorem due_cases (h : due s = true) :
    ∃ e rest i, s.inbox = e :: rest ∧ decode e.word = .ok i ∧
      ((s.block.state = .waitAirwayFree ∧ i = .tick false) ∨
       (s.block.state = .waitAirwayFree ∧ i = .tick true ∧
         expired Config.cfg.airwayTimeoutMs e.now s.block.airTs = true) ∨
       (s.block.state = .txBusy ∧ i = .txDone) ∨
       ((s.block.state = .rxWait ∨ s.block.state = .rxBusy) ∧ (∃ cd, i = .tick cd) ∧
         expired Config.cfg.replyTimeoutMs e.now s.block.sendTs = true)) := by
  unfold due at h
  split at h
  · cases h
  · next e rest hi =>
    split at h
    · next cd hs hd =>
      refine ⟨e, rest, _, hi, hd, ?_⟩
      cases cd
      · exact .inl ⟨hs, rfl⟩
      · exact .inr (.inl ⟨hs, rfl, by simpa [expired_iff] using h⟩)
    · next hs hd => exact ⟨e, rest, _, hi, hd, .inr (.inr (.inl ⟨hs, rfl⟩))⟩
    · next cd hs hd =>
      exact ⟨e, rest, _, hi, hd, .inr (.inr (.inr ⟨.inl hs, ⟨cd, rfl⟩, by simpa [expired_iff] using h⟩))⟩
    · next cd hs hd =>
      exact ⟨e, rest, _, hi, hd, .inr (.inr (.inr ⟨.inr hs, ⟨cd, rfl⟩, by simpa [expired_iff] using h⟩))⟩
    · cases h

/-- An event that R174 asks for is not ignored, and it is no RX_START. -/
theorem moves_of_due (hdue : due s = true) (hstep : step s = .next t) :
    (t.block.state ≠ s.block.state ∧ t.block.state ≠ .rxBusy) ∨ t.sent ≠ none := by
  obtain ⟨e, rest, i, hi, hd, hcases⟩ := due_cases hdue
  rw [step_of_decode_ok hi hd] at hstep
  obtain ⟨hs, rfl⟩ | ⟨hs, rfl, hexp⟩ | ⟨hs, rfl⟩ | ⟨hs, ⟨cd, rfl⟩, hexp⟩ := hcases <;> cases hstep
  · exact .inl (by simp [tick_clearChannel, hs])
  · exact .inl (by simp [tick_busyChannel, hs, hexp])
  · simp only [emit_block, emit_sent, sample_block, transmitDone_txBusy _ hs]
    split_ifs <;> simp [hs]
  · refine .inl ?_
    simp only [emit_block, sample_block, sample_now, tick_replyWait _ _ _ hs, hexp, if_true]
    split_ifs <;> rcases hs with hs | hs <;> simp [hs]

end

/-- What the attempt in progress adds to the rank. -/
def attemptRank (b : Block) : Nat :=
  match b.state with
  | .idle | .waitAirwayFree => 0
  | .txBusy => b.repeatsLeft.toNat + 2
  | .rxWait | .rxBusy => 1

theorem rank_eq (b : Block) : rank b = attemptsLeft b * (Config.cfg.txRepeat.toNat + 2) + attemptRank b := by
  unfold rank attemptsLeft attemptRank
  cases b.state <;> simp [Nat.add_assoc]

theorem rank_pos {b : Block} (hb : b.state ≠ .idle) : 0 < rank b := by
  cases hs : b.state with
  | idle => exact absurd hs hb
  | waitAirwayFree | txBusy | rxWait | rxBusy => simp [rank, hs]

theorem rank_idle {b : Block} (hb : b.state = .idle) : rank b = 0 := by simp [rank, hb]

/-- An event that R174 asks for lowers the rank, and no event raises it. -/
theorem rank_step {s t : State} (hs : s.block.state ≠ .idle) (hstep : step s = .next t) :
    rank t.block + (if due s then 1 else 0) ≤ rank s.block := by
  have hle : (if due s then 1 else 0) ≤ 1 := by split_ifs <;> omega
  have hmove := step_slotMove hs hstep
  generalize hsent : t.sent = sent at hmove
  cases hmove
  case stays hstate hattempts hrepeats =>
    have hnot : ¬ due s = true := fun hdue => by simpa [hstate, hsent] using moves_of_due hdue hstep
    simp [hnot, rank_eq, attemptRank, hstate, hattempts, hrepeats]
  case receptionBegins hwait hbusy hattempts =>
    have hnot : ¬ due s = true := fun hdue => by simpa [hbusy, hsent] using moves_of_due hdue hstep
    simp [hnot, rank_eq, attemptRank, hwait, hbusy, hattempts]
  case freed hidle =>
    have hpos := rank_pos hs
    rw [rank_idle hidle]
    omega
  case attemptBegins hwait hbusy hattempts hrepeats =>
    simp only [rank_eq, attemptRank, hwait, hbusy, ← hattempts, Nat.succ_mul]
    omega
  case nextRepeat hbusy hbusy' hattempts hrepeats =>
    simp only [rank_eq, attemptRank, hbusy, hbusy', hattempts]
    omega
  case replyWait hbusy hwait hattempts =>
    simp only [rank_eq, attemptRank, hbusy, hwait, hattempts]
    omega
  case retry hwait hair hattempts =>
    rcases hwait with hwait | hwait <;> simp only [rank_eq, attemptRank, hair, hwait, hattempts] <;> omega

/-- Settles O49. -/
theorem stepLowersRank : Obligations.StepLowersRank := by
  unfold Obligations.StepLowersRank
  intro s t hs hstep
  exact .inr (rank_step hs hstep)

/-- Settles O48, by induction on the run: each due event takes one from the rank, which is not 0 while the slot is
occupied. -/
theorem progressBound : Obligations.ProgressBound := by
  unfold Obligations.ProgressBound
  intro k
  induction k with
  | zero =>
    intro s
    by_cases hs : s.block.state = .idle
    · exact .inl (by simp [freedWithin, hs])
    · exact .inr (rank_pos hs)
  | succ k ih =>
    intro s
    by_cases hs : s.block.state = .idle
    · exact .inl (by simp [freedWithin, hs])
    · cases hstep : step s with
      | next t =>
        have hrank := rank_step hs hstep
        refine (ih t).imp (fun hfreed => ?_) (fun hcount => ?_)
        · simp [freedWithin, hstep, hfreed]
        · simp only [dueUntilIdle, hs, if_false, hstep]
          omega
      | fault r => exact nomatch r
      | refused r => exact .inr (by simpa [dueUntilIdle, hs, hstep] using rank_pos hs)

/-! ### The frames of one attempt (R172) -/

theorem exec_inbox {i : Instr} {s t : State} (hx : exec i s = .next t) : t.inbox = s.inbox := by
  cases i <;> cases hx <;> rfl

theorem sendCount_of_none {t : State} (h : t.sent = none) : sendCount t = 0 := by simp [sendCount, h]

theorem sendCount_of_some {t : State} {F : Frame} (h : t.sent = some F) : sendCount t = 1 := by simp [sendCount, h]

/-- A step adds no event to those that wait. -/
theorem step_inbox_subset {s t : State} (hstep : step s = .next t) : t.inbox ⊆ s.inbox := by
  obtain ⟨-, rfl⟩ | ⟨e, rest, i, hi, -, hx⟩ := step_cases s t hstep
  · exact List.Subset.refl _
  · rw [exec_inbox hx, hi, sample_inbox]
    exact List.subset_cons_self e rest

/-- In TxBusy each send takes one from REPEATS_LEFT, and without a RESET the attempt is left only when none is left. -/
theorem step_txBusy_cases {s t : State} (hs : s.block.state = .txBusy)
    (hreset : ∀ e ∈ s.inbox, decode e.word ≠ .ok .reset) (hstep : step s = .next t) :
    (t.block.state = .txBusy ∧ s.block.repeatsLeft.toNat = sendCount t + t.block.repeatsLeft.toNat) ∨
    (t.block.state ≠ .txBusy ∧ s.block.repeatsLeft.toNat = sendCount t) := by
  obtain ⟨-, rfl⟩ | ⟨e, rest, i, hi, hd, hx⟩ := step_cases s t hstep
  · exact .inl ⟨hs, by simp [sendCount_of_none (t := quiet s s.block) rfl]⟩
  · obtain ⟨hsent, hstate, -, hrepeats⟩ | ⟨hrow, -⟩ := exec_transition_cases hx
    · exact .inl ⟨hstate.trans hs, by simp [sendCount_of_none hsent, hrepeats]⟩
    · cases hrow
      case nextRepeat _ hleft hbusy hsent hrepeats =>
        refine .inl ⟨hbusy, ?_⟩
        rw [sendCount_of_some hsent, hrepeats, Nat.add_comm]
        exact (toNat_pred_add_one hleft).symm
      case replyWait _ hzero _ hwait _ hsent =>
        rw [sample_block] at hzero
        exact .inr (by simp [hwait, sendCount_of_none hsent, hzero])
      case sentWithoutReply _ hzero _ hcompl hsent =>
        rw [sample_block] at hzero
        exact .inr (by simp [idle_of_completed hcompl, sendCount_of_none hsent, hzero])
      case reset => exact absurd hd (hreset e (by simp [hi]))
      case startTx h _ _ _ | startTxReply h _ _ _ | clearChannel h _ _ _ | airwayDeadline h _ _ _ |
          receptionBegins h _ _ | reply _ h _ _ _ _ _ | retry _ h _ _ _ _ _ _ | retriesExhausted _ h _ _ _ _ =>
        simp [hs] at h

theorem sendsUntilSent_eq_repeatsLeft {k : Nat} : ∀ {n : Nat} {s : State}, s.block.state = .txBusy →
    (∀ e ∈ s.inbox, decode e.word ≠ .ok .reset) → sendsUntilSent k s = some n → n = s.block.repeatsLeft.toNat := by
  induction k with
  | zero => intro n s hs hreset hn; cases hn
  | succ k ih =>
    intro n s hs hreset hn
    cases hstep : step s with
    | next t =>
      simp only [sendsUntilSent, hs, if_true, hstep, Option.map_eq_some_iff] at hn
      obtain ⟨m, hm, rfl⟩ := hn
      obtain ⟨hbusy, hcount⟩ | ⟨hleft, hcount⟩ := step_txBusy_cases hs hreset hstep
      · rw [hcount, ih hbusy (fun e he => hreset e (step_inbox_subset hstep he)) hm]
      · have hzero : m = 0 := by cases k <;> simp_all [sendsUntilSent]
        rw [hcount, hzero, Nat.add_zero]
    | fault r => exact nomatch r
    | refused r => simp [sendsUntilSent, hs, hstep] at hn

/-- Settles O46. -/
theorem attemptSendCount : Obligations.AttemptSendCount := by
  unfold Obligations.AttemptSendCount
  refine ⟨fun s hs => ⟨_, exec_tick s false, ?_⟩, fun k n s => sendsUntilSent_eq_repeatsLeft⟩
  rw [tick_clearChannel _ _ hs]
  exact ⟨rfl, rfl, txRepeat_pred_add_one⟩

/-! ### The bounds on attempts and on sends (R173) -/

/-- What the steps of a run count, as `count` says of each step, until the slot is free. -/
def countUntilIdle (count : State → State → Nat) : Nat → State → Nat
  | 0, _ => 0
  | k + 1, s =>
    if s.block.state = .idle then 0
    else match step s with
      | .next t => count s t + countUntilIdle count k t
      | .fault _ => 0
      | .refused _ => 0

/-- 1 where the step leaves WaitAirwayFree for TxBusy, else 0. -/
def attemptCount (s t : State) : Nat :=
  if s.block.state = .waitAirwayFree ∧ t.block.state = .txBusy then 1 else 0

theorem sendsUntilIdle_eq (k : Nat) : ∀ s, sendsUntilIdle k s = countUntilIdle (fun _ t => sendCount t) k s := by
  induction k with
  | zero => intro s; rfl
  | succ k ih => intro s; cases hstep : step s <;> simp only [sendsUntilIdle, countUntilIdle, hstep, ih]

theorem attemptsUntilIdle_eq (k : Nat) : ∀ s, attemptsUntilIdle k s = countUntilIdle attemptCount k s := by
  induction k with
  | zero => intro s; rfl
  | succ k ih =>
    intro s
    cases hstep : step s <;> simp only [attemptsUntilIdle, countUntilIdle, attemptCount, hstep, ih]

/-- What every step takes from a supply, a run takes no more of than there is. -/
theorem countUntilIdle_le {count : State → State → Nat} {supply : Block → Nat}
    (h : ∀ s t : State, s.block.state ≠ .idle → step s = .next t → count s t + supply t.block ≤ supply s.block)
    (k : Nat) : ∀ s : State, countUntilIdle count k s ≤ supply s.block := by
  induction k with
  | zero => intro s; exact Nat.zero_le _
  | succ k ih =>
    intro s
    simp only [countUntilIdle]
    split_ifs with hs
    · exact Nat.zero_le _
    · split
      · next t hstep => exact (Nat.add_le_add_left (ih t) _).trans (h s t hs hstep)
      all_goals exact Nat.zero_le _

/-- The frames that the slot can still send: `TX_REPEAT` for each attempt to come, and the repeats of the attempt in
progress. -/
def sendsLeft (b : Block) : Nat :=
  attemptsLeft b * Config.cfg.txRepeat.toNat + if b.state = .txBusy then b.repeatsLeft.toNat else 0

section
variable {s t : State}

theorem attemptsLeft_step (hs : s.block.state ≠ .idle) (hstep : step s = .next t) :
    attemptCount s t + attemptsLeft t.block ≤ attemptsLeft s.block := by
  have hmove := step_slotMove hs hstep
  generalize t.sent = sent at hmove
  cases hmove
  case stays hstate hattempts _ =>
    have hnot : ¬ (s.block.state = .waitAirwayFree ∧ t.block.state = .txBusy) := by
      rintro ⟨hwait, hbusy⟩
      simp [hstate, hwait] at hbusy
    simp [attemptCount, hnot, hattempts]
  case freed hidle => simp [attemptCount, attemptsLeft_idle hidle, hidle]
  case attemptBegins hwait hbusy hattempts _ =>
    simp only [attemptCount, hwait, hbusy, and_self, if_true]
    omega
  case nextRepeat hstate _ hattempts _ | replyWait hstate _ hattempts | receptionBegins hstate _ hattempts =>
    simp [attemptCount, hstate, hattempts]
  case retry hwait hair hattempts => simp [attemptCount, hair, hattempts]

theorem sendsLeft_step (hs : s.block.state ≠ .idle) (hstep : step s = .next t) :
    sendCount t + sendsLeft t.block ≤ sendsLeft s.block := by
  have hmove := step_slotMove hs hstep
  generalize hsent : t.sent = sent at hmove
  cases hmove
  case stays hstate hattempts hrepeats =>
    simp [sendCount_of_none hsent, sendsLeft, hstate, hattempts, hrepeats]
  case freed hidle => simp [sendCount_of_none hsent, sendsLeft, attemptsLeft_idle hidle, hidle]
  case attemptBegins hwait hbusy hattempts hrepeats =>
    have hnew : sendsLeft s.block = attemptsLeft t.block * Config.cfg.txRepeat.toNat + Config.cfg.txRepeat.toNat := by
      simp [sendsLeft, hwait, ← hattempts, Nat.succ_mul]
    rw [sendCount_of_some hsent, hnew, sendsLeft, if_pos hbusy]
    omega
  case nextRepeat hbusy hbusy' hattempts hrepeats =>
    rw [sendCount_of_some hsent, sendsLeft, sendsLeft, if_pos hbusy, if_pos hbusy', hattempts]
    omega
  case replyWait _ hstate hattempts | receptionBegins _ hstate hattempts | retry _ hstate hattempts =>
    simp [sendCount_of_none hsent, sendsLeft, hstate, hattempts]

end

theorem attemptsUntilIdle_le (k : Nat) (s : State) : attemptsUntilIdle k s ≤ attemptsLeft s.block := by
  rw [attemptsUntilIdle_eq]
  exact countUntilIdle_le (fun _ _ => attemptsLeft_step) k s

theorem sendsUntilIdle_le (k : Nat) (s : State) : sendsUntilIdle k s ≤ sendsLeft s.block := by
  rw [sendsUntilIdle_eq]
  exact countUntilIdle_le (fun _ _ => sendsLeft_step) k s

/-- A slot just filled holds one attempt more than retries. -/
theorem startTransmit_supply (reply : Bool) (n : Byte) (now : Word) {b : Block} (hb : b.state = .idle) :
    attemptsLeft (startTransmit reply n now b) = n.toNat + 1 ∧
    sendsLeft (startTransmit reply n now b) = (n.toNat + 1) * Config.cfg.txRepeat.toNat := by
  rw [startTransmit_idle reply n now b hb]
  exact ⟨rfl, rfl⟩

/-- Settles O47. -/
theorem attemptBound : Obligations.AttemptBound := by
  unfold Obligations.AttemptBound
  intro k s hs
  refine ⟨⟨_, exec_startTx s, ?_⟩, ⟨_, exec_startTxReply s, ?_⟩⟩
  · obtain ⟨hattempts, hsends⟩ := startTransmit_supply false 0#8 s.now hs
    have hone : ((0#8).toNat + 1) * Config.cfg.txRepeat.toNat = Config.cfg.txRepeat.toNat := Nat.one_mul _
    exact ⟨(attemptsUntilIdle_le k _).trans hattempts.le, (sendsUntilIdle_le k _).trans (hsends.trans hone).le⟩
  · obtain ⟨hattempts, hsends⟩ := startTransmit_supply true s.block.replyRetries s.now hs
    exact ⟨(attemptsUntilIdle_le k _).trans hattempts.le, (sendsUntilIdle_le k _).trans hsends.le⟩

/-! ### The events one by one (R161 to R168) -/

/-- Settles O33. -/
theorem tickIgnored : Obligations.TickIgnored := by
  unfold Obligations.TickIgnored
  refine ⟨decode_encode (i := .tick false) rfl, decode_encode (i := .tick true) rfl, fun s cd hs => ?_⟩
  rw [exec_tick, tick_ignored _ _ _ hs]; rfl

/-- Settles O34. -/
theorem tickClearChannel : Obligations.TickClearChannel := by
  unfold Obligations.TickClearChannel
  refine ⟨decode_encode (i := .tick false) rfl, fun s hs => ?_⟩
  rw [exec_tick, tick_clearChannel _ _ hs]; rfl

/-- Settles O35: the check is `expired`, said over the natural numbers. -/
theorem tickBusyChannel : Obligations.TickBusyChannel := by
  unfold Obligations.TickBusyChannel
  refine ⟨decode_encode (i := .tick true) rfl, fun s hs => ?_⟩
  rw [exec_tick, tick_busyChannel _ _ hs]
  simp only [expired_iff_toNat]
  rfl

/-- Settles O36: the check is `expired`, said over the natural numbers. -/
theorem tickReplyWait : Obligations.TickReplyWait := by
  unfold Obligations.TickReplyWait
  refine ⟨decode_encode (i := .tick false) rfl, decode_encode (i := .tick true) rfl, fun s cd hs => ?_⟩
  rw [exec_tick, tick_replyWait _ _ _ hs]
  have hpos : 0 < s.block.retriesLeft.toNat ↔ 0#8 < s.block.retriesLeft := by
    rw [BitVec.lt_def]; rfl
  simp only [expired_iff_toNat, hpos]
  split_ifs with hexp hleft
  · rw [ofNat_toNat_pred hleft]; rfl
  · rfl
  · rfl

/-- Settles O37. -/
theorem txDoneResult : Obligations.TxDoneResult := by
  unfold Obligations.TxDoneResult
  refine ⟨decode_encode (i := .txDone) rfl, fun s hs => ?_⟩
  rw [exec_txDone, transmitDone_txBusy _ hs]
  refine ⟨fun hleft => ?_, fun hzero hreply => ?_, fun hzero hreply => ?_⟩
  · have hpos : 0#8 < s.block.repeatsLeft := (BitVec.pos_iff_ne_zero _).mpr hleft
    rw [if_pos hpos, ofNat_toNat_pred hpos]; rfl
  · rw [if_neg (by simp [hzero]), if_pos hreply]; rfl
  · rw [if_neg (by simp [hzero]), if_neg (by simp [hreply])]; rfl

/-- Settles O38. -/
theorem txDoneIgnored : Obligations.TxDoneIgnored := by
  unfold Obligations.TxDoneIgnored
  refine ⟨decode_encode (i := .txDone) rfl, fun s hs => ?_⟩
  rw [exec_txDone, transmitDone_ignored _ hs]; rfl

/-- Settles O39. -/
theorem rxStartResult : Obligations.RxStartResult := by
  unfold Obligations.RxStartResult
  refine ⟨decode_encode (i := .rxStart) rfl, fun s => ?_⟩
  rw [exec_rxStart]
  obtain ⟨hs, e⟩ | ⟨hs, e⟩ := receiveStart_cases s.block <;> rw [e]
  · exact ⟨fun h => absurd h hs, fun _ => rfl⟩
  · exact ⟨fun _ => rfl, fun h => absurd hs h⟩

/-- The word of RX_DONE as R74 and R75 lay it out: KIND 5, LEN. -/
theorem encode_rxDone_eq (len : Byte) : encode (.rxDone len) = 0x50000000#32 ||| len.setWidth 32 := by
  simp [Sys2Proof.encode, eventWord]

/-- Settles O40. -/
theorem rxDoneResult : Obligations.RxDoneResult := by
  unfold Obligations.RxDoneResult
  refine ⟨fun len => ?_, fun s len => ?_⟩
  · rw [← encode_rxDone_eq, decode_encode (i := .rxDone len) rfl]
  · rw [exec_rxDone, ← accept_iff_frameAccepted]
    refine ⟨fun hs => ?_, fun hs hacc => ?_, fun hs hacc => ?_, fun hrej => ?_⟩
    · rw [receiveDone_dropped _ _ _ (.inl hs)]; rfl
    · rw [receiveDone_forwarded _ _ _ hs hacc]; rfl
    · rw [receiveDone_completed _ _ _ hs hacc]; rfl
    · rw [receiveDone_dropped _ _ _ (.inr hrej)]; rfl

end Sys2Proof.Machine
end

section
/-! The statements of 60_exceptions.md: every event completes (R200), the causes of a completion (R203), the silent drops
(R204), the interrupt output (R205), the events of one cycle (R206), and the block's own duty towards the radio (R213). -/

namespace Sys2Proof.Machine

/-! ### Every event completes (R200) -/

/-- Every instruction ends its step with `finish`: it never faults or refuses, and writes the block and the two outputs
only. -/
theorem exec_eq_finish (i : Instr) (s : State) : ∃ b sent readData, exec i s = .next (finish s b sent readData) := by
  cases i <;> exact ⟨_, _, _, rfl⟩

/-- Settles O8. -/
theorem everyEventCompletes : Obligations.EveryEventCompletes := by
  unfold Obligations.EveryEventCompletes
  intro i s
  obtain ⟨b, sent, readData, hx⟩ := exec_eq_finish i s
  exact ⟨_, hx, finish_inbox s b sent readData, finish_now s b sent readData, finish_rxData s b sent readData⟩

/-- Where the pending words spell events, a step answers a next state and takes the oldest event, if there is one. -/
theorem step_completes {s : State} (hs : wordsSpellEvents s) : ∃ t, step s = .next t ∧ t.inbox = s.inbox.tail := by
  cases hi : s.inbox with
  | nil => exact ⟨_, step_of_inbox_nil hi, hi⟩
  | cons e rest =>
    obtain ⟨i, hd⟩ := hs e (by simp [hi])
    obtain ⟨b, sent, readData, hx⟩ := exec_eq_finish i (sample s e rest)
    exact ⟨_, (step_of_decode_ok hi hd).trans hx, rfl⟩

/-- Settles O9, by induction on the number of steps: the events that still wait are among those that waited before. -/
theorem wellFormedRunNeverStops : Obligations.WellFormedRunNeverStops := by
  unfold Obligations.WellFormedRunNeverStops
  intro k
  induction k with
  | zero => exact fun s _ => ⟨s, run_zero s, rfl⟩
  | succ k ih =>
    intro s hs
    obtain ⟨t, hstep, htail⟩ := step_completes hs
    have ht : wordsSpellEvents t := fun e he => hs e (step_inbox_subset hstep he)
    obtain ⟨u, hrun, hdrop⟩ := ih t ht
    refine ⟨u, (run_succ_next k s t hstep).trans hrun, ?_⟩
    rw [hdrop, htail, List.drop_tail]

/-! ### The causes of a completion (R203)

An instruction other than RESET keeps the completion record or frees the slot, and the rows of the transition table that
free the slot are the four causes. -/

/-- COMP_RESULT, COMP_REPLY and COMP_TAG are as they were. -/
def keepsRecord (b c : Block) : Prop :=
  c.compResult = b.compResult ∧ c.compReply = b.compReply ∧ c.compTag = b.compTag

/-- An occupied slot became free. -/
def freesSlot (b c : Block) : Prop :=
  b.state ≠ .idle ∧ c.state = .idle

theorem keepsRecord_refl (b : Block) : keepsRecord b b := ⟨rfl, rfl, rfl⟩

theorem writeReg_keepsRecord (b : Block) (a : BitVec 6) (v : Byte) : keepsRecord b (writeReg b a v) := by
  obtain ⟨-, e⟩ | ⟨-, e⟩ | ⟨-, e⟩ | ⟨-, e⟩ | ⟨-, e⟩ | ⟨-, e⟩ | ⟨_, -, e⟩ | ⟨-, e⟩ := writeReg_cases b a v <;>
    rw [e] <;> exact keepsRecord_refl b

theorem startTransmit_keepsRecord (reply : Bool) (n : Byte) (now : Word) (b : Block) :
    keepsRecord b (startTransmit reply n now b) := by
  by_cases hb : b.state = .idle
  · rw [startTransmit_idle reply n now b hb]; exact keepsRecord_refl b
  · rw [startTransmit_busy reply n now b hb]; exact keepsRecord_refl b

theorem receiveStart_keepsRecord (b : Block) : keepsRecord b (receiveStart b) := by
  obtain ⟨-, e⟩ | ⟨-, e⟩ := receiveStart_cases b <;> rw [e] <;> exact keepsRecord_refl b

theorem tick_record (cfg : Cfg) (cd : Bool) (now : Word) (b : Block) :
    keepsRecord b (tick cfg cd now b).1 ∨ freesSlot b (tick cfg cd now b).1 := by
  obtain e | ⟨-, -, e⟩ | ⟨hs, -, -, e⟩ | ⟨-, -, -, e⟩ | ⟨hs, -, -, e⟩ := tick_cases cfg cd now b <;> rw [e]
  · exact .inl (keepsRecord_refl b)
  · exact .inl (keepsRecord_refl b)
  · exact .inr ⟨by simp [hs], rfl⟩
  · exact .inl (keepsRecord_refl b)
  · exact .inr ⟨state_ne_idle_of_reply_wait hs, rfl⟩

theorem transmitDone_record (now : Word) (b : Block) :
    keepsRecord b (transmitDone now b).1 ∨ freesSlot b (transmitDone now b).1 := by
  obtain ⟨-, e⟩ | ⟨-, -, e⟩ | ⟨-, -, -, e⟩ | ⟨hs, -, -, e⟩ := transmitDone_cases now b <;> rw [e]
  · exact .inl (keepsRecord_refl b)
  · exact .inl (keepsRecord_refl b)
  · exact .inl (keepsRecord_refl b)
  · exact .inr ⟨by simp [hs], rfl⟩

theorem receiveDone_record (cfg : Cfg) (len : Byte) (D : Frame) (b : Block) :
    keepsRecord b (receiveDone cfg len D b) ∨ freesSlot b (receiveDone cfg len D b) := by
  obtain ⟨-, e⟩ | ⟨-, -, e⟩ | ⟨hs, -, e⟩ := receiveDone_cases cfg len D b <;> rw [e]
  · exact .inl (keepsRecord_refl b)
  · exact .inl (keepsRecord_refl b)
  · exact .inr ⟨state_ne_idle_of_reply_wait hs, rfl⟩

section
variable {i : Instr} {s t : State}

theorem exec_record_cases (hx : exec i s = .next t) (hi : i ≠ .reset) :
    keepsRecord s.block t.block ∨ freesSlot s.block t.block := by
  cases i <;> cases hx
  case tick cd => exact tick_record Config.cfg cd s.now s.block
  case txDone => exact transmitDone_record s.now s.block
  case rxDone len => exact receiveDone_record Config.cfg len s.rxData s.block
  case rxStart => exact .inl (receiveStart_keepsRecord s.block)
  case regWrite a v => exact .inl (writeReg_keepsRecord s.block a v)
  case startTx => exact .inl (startTransmit_keepsRecord false 0#8 s.now s.block)
  case startTxReply => exact .inl (startTransmit_keepsRecord true s.block.replyRetries s.now s.block)
  case reset => exact absurd rfl hi
  case cmdReserved | nop | encode | decode | ackDone | rxAck | regRead => exact .inl (keepsRecord_refl s.block)

/-- DONE rises, or another field of the record changes, only where the slot is freed. -/
theorem freesSlot_of_recordChanged (hx : exec i s = .next t) (hi : i ≠ .reset) (hrec : recordChanged s t) :
    freesSlot s.block t.block := by
  obtain ⟨hresult, hreply, htag⟩ | hfreed := exec_record_cases hx hi
  · obtain ⟨hlow, hhigh⟩ | h | h | h := hrec
    · obtain hkept | ⟨hs, ht, -⟩ | ⟨hclear, -⟩ := exec_done_cases hx
      · simp [hkept, hlow] at hhigh
      · exact ⟨hs, ht⟩
      · simp [hclear] at hhigh
    · exact absurd hresult h
    · exact absurd hreply h
    · exact absurd htag h
  · exact hfreed

/-- The rows of the transition table that free the slot, RESET apart. -/
theorem completionCause_of_transitionRow (hrow : TransitionRow s t i) (hi : i ≠ .reset)
    (hfreed : freesSlot s.block t.block) : CompletionCause s t i := by
  obtain ⟨hs, ht⟩ := hfreed
  cases hrow
  case sentWithoutReply hbusy hzero hreply hcompl _ => exact .allRepeatsDone hbusy hzero hreply hcompl
  case reply len hwait hacc _ _ hcompl _ => exact .replyAccepted len hwait hacc hcompl
  case retriesExhausted cd hwait hexp hzero hcompl _ => exact .retriesExhausted cd hwait hexp hzero hcompl
  case airwayDeadline hwait hexp hcompl _ => exact .airwayDeadline hwait hexp hcompl
  case startTx hidle _ _ _ | startTxReply hidle _ _ _ => exact absurd hidle hs
  case clearChannel _ h _ _ | nextRepeat _ _ h _ _ | replyWait _ _ _ h _ _ | receptionBegins _ h _ |
      retry _ _ _ _ h _ _ _ => simp [ht] at h
  case reset => exact absurd rfl hi

end

/-- Settles O45. -/
theorem completionCauses : Obligations.CompletionCauses := by
  unfold Obligations.CompletionCauses
  intro i s t hx hi hchange
  have hfreed : freesSlot s.block t.block := hchange.elim (freesSlot_of_recordChanged hx hi) id
  have hmoves : t.block.state ≠ s.block.state := by
    obtain ⟨hs, ht⟩ := hfreed
    exact ht ▸ hs.symm
  exact completionCause_of_transitionRow (transitionTable i s t hx (.inl hmoves)) hi hfreed

/-! ### The silent drops (R204) -/

/-- Settles O42: each drop is the clause of its event's statement in which nothing but the outputs is written. -/
theorem silentDrops : Obligations.SilentDrops := by
  unfold Obligations.SilentDrops
  intro s len
  obtain ⟨-, hrxDone⟩ := rxDoneResult
  obtain ⟨hbusy, -, -, hrejected⟩ := hrxDone s len
  obtain ⟨-, htxDone⟩ := txDoneIgnored
  obtain ⟨-, hrxStart⟩ := rxStartResult
  obtain ⟨-, hnotWaiting⟩ := hrxStart s
  exact ⟨fun h => ⟨_, hrejected h, rfl, rfl⟩, fun h => ⟨_, hbusy h, rfl, rfl⟩, fun h => ⟨_, htxDone s h, rfl, rfl⟩,
    fun h => ⟨_, hnotWaiting h, rfl, rfl⟩⟩

/-! ### The interrupt output (R205) -/

theorem irq_iff (b : Block) :
    irq b = true ↔ (b.done = true ∧ b.doneIe = true) ∨ (b.rxv = true ∧ b.rxvIe = true) := by
  simp [irq]

theorem writeReg_irqEn_zero (b : Block) : writeReg b 0x06#6 0x00#8 = { b with doneIe := false, rxvIe := false } := rfl

/-- Settles O54: each of the three writes puts a 0 into the formula of R205, at DONE, at RXV or at both enable bits. -/
theorem interruptOutput : Obligations.InterruptOutput := by
  unfold Obligations.InterruptOutput
  refine ⟨irq_iff, fun s => ⟨_, _, _, exec_ackDone s, ?_, exec_rxAck s, ?_, exec_regWrite s 0x06#6 0x00#8, ?_⟩⟩
  · simp [irq_iff]
  · simp [irq_iff]
  · rw [quiet_block, writeReg_irqEn_zero]
    exact ⟨by simp [irq], rfl, rfl⟩

/-! ### The events of one cycle (R206)

The instructions that a cycle presents, in the fixed order; the arbiter's events are theirs, one by one. -/

/-- The instructions that the sources of a cycle present, RESET apart. -/
def presentedInstrs (c : Cycle) : List Instr :=
  c.rxDone.toList.map (fun r => .rxDone r.1) ++ (if c.txDone then [.txDone] else []) ++
    (if c.rxStart then [.rxStart] else []) ++ c.host.toList.map hostInstr ++ c.tick.toList.map .tick

/-- The instructions of a cycle: a RESET discards the others. -/
def cycleInstrs (c : Cycle) : List Instr := if c.reset then [.reset] else presentedInstrs c

/-- The event of an instruction in a cycle, with the cycle's RXDATA where the source is that of RX_DONE. -/
def cycleEvent (c : Cycle) (i : Instr) : Event where
  word := encode i
  now := c.now
  rxData := if sourcePlace i = 2 then (c.rxDone.map Prod.snd).getD zeroFrame else zeroFrame

theorem sourcePlace_commandOf (v : Byte) : sourcePlace (commandOf v) = 5 := by
  obtain rfl | rfl | rfl | rfl | rfl | rfl | rfl | h := commandCode_cases v
  iterate 7 · rfl
  · rw [commandOf_reserved h]; rfl

@[simp] theorem sourcePlace_hostInstr (h : HostAccess) : sourcePlace (hostInstr h) = 5 := by
  cases h with
  | write a v =>
    by_cases ha : a = 0#6
    · subst ha; exact sourcePlace_commandOf v
    · rw [hostInstr, hostWriteOf_of_ne ha]; rfl
  | read a => rfl

theorem wellFormed_hostInstr (h : HostAccess) : wellFormed (hostInstr h) = true := by
  cases h with
  | write a v => exact wellFormed_hostWriteOf a v
  | read a => rfl

section
variable {c : Cycle} {i : Instr}

theorem cycleEvent_of_sourcePlace_ne (hi : sourcePlace i ≠ 2) : cycleEvent c i = plainEvent c.now i := by
  simp [cycleEvent, plainEvent, hi]

theorem mem_presentedInstrs :
    i ∈ presentedInstrs c ↔ (∃ r, c.rxDone = some r ∧ i = .rxDone r.1) ∨ (c.txDone = true ∧ i = .txDone) ∨
      (c.rxStart = true ∧ i = .rxStart) ∨ (∃ h, c.host = some h ∧ i = hostInstr h) ∨
      ∃ cd, c.tick = some cd ∧ i = .tick cd := by
  simp [presentedInstrs, eq_comm (a := i)]

/-- Away from the host's place, an instruction of the cycle is what its own source presents. -/
theorem mem_presentedInstrs_of_sourcePlace_ne (hi : sourcePlace i ≠ 5) :
    i ∈ presentedInstrs c ↔ (∃ r, c.rxDone = some r ∧ i = .rxDone r.1) ∨ (c.txDone = true ∧ i = .txDone) ∨
      (c.rxStart = true ∧ i = .rxStart) ∨ ∃ cd, c.tick = some cd ∧ i = .tick cd := by
  have hhost : ¬ ∃ h, c.host = some h ∧ i = hostInstr h := by
    rintro ⟨h, -, rfl⟩
    exact hi (sourcePlace_hostInstr h)
  rw [mem_presentedInstrs, or_iff_right_of_imp (a := ∃ h, _) (absurd · hhost)]

theorem wellFormed_of_mem_cycleInstrs (hi : i ∈ cycleInstrs c) : wellFormed i = true := by
  unfold cycleInstrs at hi
  split at hi
  · rw [List.mem_singleton.mp hi]; rfl
  · obtain ⟨r, -, rfl⟩ | ⟨-, rfl⟩ | ⟨-, rfl⟩ | ⟨h, -, rfl⟩ | ⟨cd, -, rfl⟩ := mem_presentedInstrs.mp hi
    case inr.inr.inr.inl => exact wellFormed_hostInstr h
    all_goals rfl

theorem rxDone_mem_cycleInstrs {len : Byte} (hi : .rxDone len ∈ cycleInstrs c) : ∃ D, c.rxDone = some (len, D) := by
  unfold cycleInstrs at hi
  split at hi
  · simp at hi
  · rw [mem_presentedInstrs_of_sourcePlace_ne (by simp [sourcePlace])] at hi
    simpa using hi

end

theorem arbitrate_eq_map (c : Cycle) : arbitrate c = (cycleInstrs c).map (cycleEvent c) := by
  have hother {i : Instr} (hi : sourcePlace i ≠ 2) : plainEvent c.now i = cycleEvent c i :=
    (cycleEvent_of_sourcePlace_ne hi).symm
  have hrx : c.rxDone.toList.map (fun r => { word := encode (.rxDone r.1), now := c.now, rxData := r.2 }) =
      c.rxDone.toList.map (fun r => cycleEvent c (.rxDone r.1)) := by
    cases hr : c.rxDone <;> simp [cycleEvent, sourcePlace, hr]
  unfold arbitrate cycleInstrs presentedInstrs
  rw [hrx, hother (i := .reset) (by decide), hother (i := .txDone) (by decide), hother (i := .rxStart) (by decide)]
  simp only [hother (i := hostInstr _) (by simp), hother (i := .tick _) (by simp [sourcePlace])]
  split_ifs <;> simp [Function.comp_def]

/-- A latch that holds one value at most presents its source's place at most once. -/
theorem latch_places_sublist {α : Type} (o : Option α) {f : α → Instr} {p : Nat} (hf : ∀ x, sourcePlace (f x) = p) :
    ((o.toList.map f).map sourcePlace).Sublist [p] := by
  cases o <;> simp [hf]

theorem strobe_places_sublist (b : Bool) (i : Instr) :
    ((if b then [i] else []).map sourcePlace).Sublist [sourcePlace i] := by
  cases b <;> simp

/-- The places of the presented instructions are some of 2 to 6, in order. -/
theorem sourcePlaces_sublist (c : Cycle) :
    ((presentedInstrs c).map sourcePlace).Sublist ([2] ++ [3] ++ [4] ++ [5] ++ [6]) := by
  have hrxDone := latch_places_sublist c.rxDone (f := fun r => .rxDone r.1) fun _ => rfl
  have htxDone := strobe_places_sublist c.txDone .txDone
  have hrxStart := strobe_places_sublist c.rxStart .rxStart
  have hhost := latch_places_sublist c.host sourcePlace_hostInstr
  have htick := latch_places_sublist c.tick (f := .tick) fun _ => rfl
  simp only [presentedInstrs, List.map_append]
  exact (((hrxDone.append htxDone).append hrxStart).append hhost).append htick

theorem sourcePlaces_pairwise (c : Cycle) : ((cycleInstrs c).map sourcePlace).Pairwise (· < ·) := by
  unfold cycleInstrs
  split
  · exact List.pairwise_singleton _ _
  · exact List.Pairwise.sublist (sourcePlaces_sublist c) (by decide)

theorem sourcePlace_ne_host {c : Cycle} (hnone : c.host = none) {i : Instr} (hi : i ∈ presentedInstrs c) :
    sourcePlace i ≠ 5 := by
  obtain ⟨r, -, rfl⟩ | ⟨-, rfl⟩ | ⟨-, rfl⟩ | ⟨h, hsome, -⟩ | ⟨cd, -, rfl⟩ := mem_presentedInstrs.mp hi
  case inr.inr.inr.inl => simp [hnone] at hsome
  all_goals simp [sourcePlace]

/-- Settles O55: the cycle's events are those of `cycleInstrs`, whose words decode to the instructions themselves. -/
theorem sameCycleOrder : Obligations.SameCycleOrder := by
  unfold Obligations.SameCycleOrder
  intro c
  refine ⟨cycleInstrs c, ?_, sourcePlaces_pairwise c, fun hreset => if_pos hreset, fun hreset => ?_, ?_⟩
  · rw [arbitrate_eq_map, List.map_map]
    exact List.map_congr_left fun i hi => decode_encode (wellFormed_of_mem_cycleInstrs hi)
  · have hcycle : cycleInstrs c = presentedInstrs c := if_neg (by simp [hreset])
    rw [hcycle]
    refine ⟨fun len => ?_, ?_, ?_, fun cd => ?_, fun h hsome => ?_, ?_, fun hnone i => sourcePlace_ne_host hnone⟩
    case refine_5 => exact mem_presentedInstrs.mpr (.inr (.inr (.inr (.inl ⟨h, hsome, rfl⟩))))
    all_goals
      rw [mem_presentedInstrs_of_sourcePlace_ne (by simp [sourcePlace])]
      simp
  · rw [arbitrate_eq_map, List.forall_mem_map]
    refine fun i hi => ⟨rfl, fun len hdecode => ?_⟩
    obtain rfl : i = .rxDone len :=
      Except.ok.inj ((decode_encode (wellFormed_of_mem_cycleInstrs hi)).symm.trans hdecode)
    obtain ⟨D, hD⟩ := rxDone_mem_cycleInstrs hi
    simp [cycleEvent, sourcePlace, hD]

/-! ### The block's own duty towards the radio (R213) -/

/-- The two rows of the transition table that send. -/
theorem send_of_transitionRow {i : Instr} {s t : State} {F : Frame} (hrow : TransitionRow s t i)
    (hsent : t.sent = some F) :
    F = s.block.txFrame ∧ t.block.state = .txBusy ∧
      ((s.block.state = .waitAirwayFree ∧ i = .tick false) ∨ (s.block.state = .txBusy ∧ i = .txDone)) := by
  cases hrow
  case clearChannel hwait hbusy hframe _ =>
    exact ⟨Option.some.inj (hsent.symm.trans hframe), hbusy, .inl ⟨hwait, rfl⟩⟩
  case nextRepeat hbusy _ hbusy' hframe _ =>
    exact ⟨Option.some.inj (hsent.symm.trans hframe), hbusy', .inr ⟨hbusy, rfl⟩⟩
  case startTx _ _ _ hnone | startTxReply _ _ _ hnone | airwayDeadline _ _ _ hnone | replyWait _ _ _ _ _ hnone |
      sentWithoutReply _ _ _ _ hnone | receptionBegins _ _ hnone | reply _ _ _ _ _ _ hnone |
      retry _ _ _ _ _ _ _ hnone | retriesExhausted _ _ _ _ _ hnone | reset _ hnone =>
    simp [hnone] at hsent

/-- Settles O43: a send is one of two rows, and the slot is occupied before and after it, so TXFRAME is kept. -/
theorem sendsWaitForTxDone : Obligations.SendsWaitForTxDone := by
  unfold Obligations.SendsWaitForTxDone
  intro i s t F hx hsent
  have hrow : TransitionRow s t i := transitionTable i s t hx (.inr (by simp [hsent]))
  obtain ⟨hF, hbusy, hsource⟩ := send_of_transitionRow hrow hsent
  have hs : s.block.state ≠ .idle := by
    obtain ⟨hs, -⟩ | ⟨hs, -⟩ := hsource <;> simp [hs]
  obtain ⟨-, -, hheld⟩ := slotHeldUntilCompletion i s t hx
  obtain ⟨hframe, -⟩ := hheld hs (by simp [hbusy])
  exact ⟨hF, hframe.trans hF.symm, hbusy, hsource⟩

end Sys2Proof.Machine
end

section
/-! The statements of 70_reset_and_hazards.md: RESET (R230 to R233), and the hazards that software meets: a torn receive
buffer (R235), a stale trailer (R238), and TxBusy without a timeout (R239). -/

namespace Sys2Proof.Machine

/-! ### The events of a run -/

/-- A run adds no event to those that wait. -/
theorem run_inbox_subset {k : Nat} {s t : State} (hrun : run k s = .next t) : t.inbox ⊆ s.inbox :=
  run_induction (fun t => t.inbox ⊆ s.inbox) (fun _ _ ht hstep => List.Subset.trans (step_inbox_subset hstep) ht) k s t
    (List.Subset.refl _) hrun

/-- A run over events that all satisfy `ok` ends in an invariant of the steps on such events. -/
theorem run_induction_of_events {ok : Event → Prop} {P : State → Prop}
    (hstep : ∀ s t, (∀ e ∈ s.inbox, ok e) → P s → step s = .next t → P t)
    {k : Nat} {s u : State} (hok : ∀ e ∈ s.inbox, ok e) (hs : P s) (hrun : run k s = .next u) : P u := by
  obtain ⟨-, hu⟩ := run_induction (fun s => (∀ e ∈ s.inbox, ok e) ∧ P s)
    (fun s t ⟨hok, hs⟩ ht => ⟨fun e he => hok e (step_inbox_subset ht he), hstep s t hok hs ht⟩) k s u ⟨hok, hs⟩ hrun
  exact hu

/-! ### TxBusy has no timeout (R239) -/

/-- Of the rows of the table only those of TX_DONE and RESET start in TxBusy. -/
theorem event_of_transitionRow_txBusy {i : Instr} {s t : State} (hs : s.block.state = .txBusy)
    (hrow : TransitionRow s t i) : i = .txDone ∨ i = .reset := by
  cases hrow
  case nextRepeat | replyWait | sentWithoutReply => exact .inl rfl
  case reset => exact .inr rfl
  case startTx h _ _ _ | startTxReply h _ _ _ | clearChannel h _ _ _ | airwayDeadline h _ _ _ |
      receptionBegins h _ _ | reply _ h _ _ _ _ _ | retry _ h _ _ _ _ _ _ | retriesExhausted _ h _ _ _ _ =>
    simp [hs] at h

/-- The repeat on air at `s` still is at `t`, whose latest step sent nothing. -/
def sameRepeatOnAir (s t : State) : Prop :=
  t.block.state = .txBusy ∧ t.sent = none ∧ t.block.txFrame = s.block.txFrame ∧
    t.block.repeatsLeft = s.block.repeatsLeft

theorem sameRepeatOnAir.trans {s t u : State} (hst : sameRepeatOnAir s t) (htu : sameRepeatOnAir t u) :
    sameRepeatOnAir s u := by
  obtain ⟨-, -, hframe, hrepeats⟩ := hst
  obtain ⟨hbusy, hsent, hframe', hrepeats'⟩ := htu
  exact ⟨hbusy, hsent, hframe'.trans hframe, hrepeats'.trans hrepeats⟩

/-- No event but TX_DONE and RESET is in the table at TxBusy, and the slot holds TXFRAME as long as it is occupied. -/
theorem exec_sameRepeatOnAir {i : Instr} {s t : State} (hs : s.block.state = .txBusy) (hdone : i ≠ .txDone)
    (hreset : i ≠ .reset) (hx : exec i s = .next t) : sameRepeatOnAir s t := by
  obtain ⟨hsent, hstate, -, hrepeats⟩ | ⟨hrow, -⟩ := exec_transition_cases hx
  · obtain ⟨-, -, hheld⟩ := slotHeldUntilCompletion i s t hx
    obtain ⟨hframe, -⟩ := hheld (by simp [hs]) (by simp [hstate, hs])
    exact ⟨hstate.trans hs, hsent, hframe, hrepeats⟩
  · exact absurd (event_of_transitionRow_txBusy hs hrow) (by simp [hdone, hreset])

theorem step_sameRepeatOnAir {s t : State} (hs : s.block.state = .txBusy)
    (hok : ∀ e ∈ s.inbox, decode e.word ≠ .ok .txDone ∧ decode e.word ≠ .ok .reset) (hstep : step s = .next t) :
    sameRepeatOnAir s t := by
  obtain ⟨-, rfl⟩ | ⟨e, rest, i, hi, hd, hx⟩ := step_cases s t hstep
  · exact ⟨hs, rfl, rfl, rfl⟩
  · obtain ⟨hdone, hreset⟩ := hok e (by simp [hi])
    exact exec_sameRepeatOnAir (s := sample s e rest) hs (fun h => hdone (h ▸ hd)) (fun h => hreset (h ▸ hd)) hx

/-- Settles O50: the first step keeps the repeat on air, and by induction on the run so does each step after it. -/
theorem txBusyHasNoTimeout : Obligations.TxBusyHasNoTimeout := by
  unfold Obligations.TxBusyHasNoTimeout
  refine ⟨fun k s u hs hok hrun => ?_, fun s _ => ⟨_, exec_reset s, rfl⟩⟩
  cases k with
  | zero =>
    cases hrun
    exact ⟨hs, fun h => absurd h (Nat.lt_irrefl 0), rfl, rfl⟩
  | succ k =>
    obtain ⟨t, hstep, hrun⟩ := run_succ_cases k s u hrun
    obtain ⟨hbusy, hsent, hframe, hrepeats⟩ : sameRepeatOnAir s u :=
      run_induction_of_events (P := sameRepeatOnAir s)
        (fun t v hok ht hv => ht.trans (step_sameRepeatOnAir ht.1 hok hv))
        (fun e he => hok e (step_inbox_subset hstep he)) (step_sameRepeatOnAir hs hok hstep) hrun
    exact ⟨hbusy, fun _ => hsent, hframe, hrepeats⟩

/-! ### A torn receive buffer is detected (R235)

RXBUF is written by forwarding only, which sets RX_OVF where RXV is 1 already (R113). -/

@[simp] theorem writeReg_rxBuf (b : Block) (a : BitVec 6) (v : Byte) : (writeReg b a v).rxBuf = b.rxBuf := by
  obtain ⟨-, e⟩ | ⟨-, e⟩ | ⟨-, e⟩ | ⟨-, e⟩ | ⟨-, e⟩ | ⟨-, e⟩ | ⟨_, -, e⟩ | ⟨-, e⟩ := writeReg_cases b a v <;>
    rw [e]

@[simp] theorem startTransmit_rxBuf (reply : Bool) (n : Byte) (now : Word) (b : Block) :
    (startTransmit reply n now b).rxBuf = b.rxBuf := by
  by_cases hb : b.state = .idle
  · rw [startTransmit_idle reply n now b hb]
  · rw [startTransmit_busy reply n now b hb]

@[simp] theorem tick_rxBuf (cfg : Cfg) (cd : Bool) (now : Word) (b : Block) :
    (tick cfg cd now b).1.rxBuf = b.rxBuf := by
  obtain e | ⟨-, -, e⟩ | ⟨-, -, -, e⟩ | ⟨-, -, -, e⟩ | ⟨-, -, -, e⟩ := tick_cases cfg cd now b <;> simp [e]

@[simp] theorem transmitDone_rxBuf (now : Word) (b : Block) : (transmitDone now b).1.rxBuf = b.rxBuf := by
  obtain ⟨-, e⟩ | ⟨-, -, e⟩ | ⟨-, -, -, e⟩ | ⟨-, -, -, e⟩ := transmitDone_cases now b <;> simp [e]

@[simp] theorem receiveStart_rxBuf (b : Block) : (receiveStart b).rxBuf = b.rxBuf := by
  obtain ⟨-, e⟩ | ⟨-, e⟩ := receiveStart_cases b <;> rw [e]

/-- RX_ACK and RESET apart, an instruction keeps RXBUF and its two flags, or it has forwarded a frame. -/
theorem exec_receive_cases {i : Instr} {s t : State} (hack : i ≠ .rxAck) (hreset : i ≠ .reset)
    (hx : exec i s = .next t) :
    (t.block.rxv = s.block.rxv ∧ t.block.rxOvf = s.block.rxOvf ∧ t.block.rxBuf = s.block.rxBuf) ∨
    (t.block.rxv = true ∧ t.block.rxOvf = (s.block.rxOvf || s.block.rxv)) := by
  cases i <;> cases hx
  case rxDone len =>
    obtain ⟨-, e⟩ | ⟨-, -, e⟩ | ⟨-, -, e⟩ := receiveDone_cases Config.cfg len s.rxData s.block <;> simp [e]
  case rxAck => exact absurd rfl hack
  case reset => exact absurd rfl hreset
  case encode | decode => exact .inl ⟨rfl, rfl, rfl⟩
  all_goals exact .inl (by simp)

/-- RXV is 1 at `t`, and RX_OVF is too, unless RXBUF and RX_OVF are still those of `s`. -/
def overflowOrKept (s t : State) : Prop :=
  t.block.rxv = true ∧
    (t.block.rxOvf = true ∨ (t.block.rxOvf = s.block.rxOvf ∧ t.block.rxBuf = s.block.rxBuf))

theorem overflowOrKept.trans {s t u : State} (hst : overflowOrKept s t) (htu : overflowOrKept t u) :
    overflowOrKept s u := by
  obtain ⟨-, hst⟩ := hst
  obtain ⟨hrxv, hovf | ⟨hovf, hbuf⟩⟩ := htu
  · exact ⟨hrxv, .inl hovf⟩
  · rw [overflowOrKept, hovf, hbuf]
    exact ⟨hrxv, hst⟩

theorem step_overflowOrKept {s t : State} (hs : s.block.rxv = true)
    (hok : ∀ e ∈ s.inbox, decode e.word ≠ .ok .rxAck ∧ decode e.word ≠ .ok .reset) (hstep : step s = .next t) :
    overflowOrKept s t := by
  obtain ⟨-, rfl⟩ | ⟨e, rest, i, hi, hd, hx⟩ := step_cases s t hstep
  · exact ⟨hs, .inr ⟨rfl, rfl⟩⟩
  · obtain ⟨hack, hreset⟩ := hok e (by simp [hi])
    obtain ⟨hrxv, hovf, hbuf⟩ | ⟨hrxv, hovf⟩ :=
      exec_receive_cases (fun h => hack (h ▸ hd)) (fun h => hreset (h ▸ hd)) hx
    · exact ⟨hrxv.trans hs, .inr ⟨hovf, hbuf⟩⟩
    · exact ⟨hrxv, .inl (by simp [hovf, hs])⟩

theorem run_overflowOrKept {k : Nat} {s t : State} (hs : s.block.rxv = true)
    (hok : ∀ e ∈ s.inbox, decode e.word ≠ .ok .rxAck ∧ decode e.word ≠ .ok .reset) (hrun : run k s = .next t) :
    overflowOrKept s t :=
  run_induction_of_events (P := overflowOrKept s)
    (fun _ _ hok ht hstep => ht.trans (step_overflowOrKept ht.1 hok hstep)) hok ⟨hs, .inr ⟨rfl, rfl⟩⟩ hrun

/-- Settles O58: an RX_OVF of 0 at the end was 0 at the point between, so neither part of the run forwarded a frame. -/
theorem tearingIsDetected : Obligations.TearingIsDetected := by
  unfold Obligations.TearingIsDetected
  intro j k s t u hs hok hst htu hend
  obtain ⟨hrxv, hfirst⟩ := run_overflowOrKept hs hok hst
  obtain ⟨-, hsecond⟩ := run_overflowOrKept hrxv (fun e he => hok e (run_inbox_subset hst he)) htu
  obtain ⟨hovf, hbuf⟩ := hsecond.resolve_left (by simp [hend])
  obtain ⟨-, hbuf'⟩ := hfirst.resolve_left (by simp [← hovf, hend])
  exact ⟨hbuf', hbuf.trans hbuf'⟩

/-! ### A prepared frame is sent as it is (R238) -/

/-- Settles O59: START_TX copies the FB that ENCODE left to TXFRAME, and the clear channel sends TXFRAME. -/
theorem preparedFrameIsSent : Obligations.PreparedFrameIsSent := by
  unfold Obligations.PreparedFrameIsSent
  intro s hs
  refine ⟨_, _, _, (encodeFrame Config.cfg s.block).fb, exec_encode s, exec_startTx _, exec_tick _ false, ?_⟩
  have hencoded : (encodeFrame Config.cfg s.block).state = .idle := hs
  rw [quiet_block, quiet_block, startTransmit_idle _ _ _ _ hencoded, tick_clearChannel _ _ rfl]
  exact ⟨rfl, rfl, fun i hi => setTrailer_getElem s.block.fb _ i hi, frameChecksum_encodeFrame Config.cfg s.block⟩

/-! ### RESET (R230 to R233) -/

/-- The default checksum of 14 zero bytes, computed (R231). -/
theorem defaultChecksum_zero : defaultChecksum (Vector.replicate 14 0x00#8) = 0xA96A#16 := by
  decide +kernel

/-- Settles O11. -/
theorem resetValues : Obligations.ResetValues := by
  unfold Obligations.ResetValues
  exact ⟨rfl, fun _ => rfl, rfl, defaultChecksum_zero⟩

/-- A RESET discards every other event of its cycle (R206). -/
theorem arbitrate_reset {c : Cycle} (hc : c.reset = true) : arbitrate c = [plainEvent c.now .reset] :=
  if_pos hc

/-- Settles O12. -/
theorem resetResult : Obligations.ResetResult := by
  unfold Obligations.ResetResult
  refine ⟨decode_encode (i := .reset) rfl, fun c hc => ?_, exec_reset⟩
  rw [arbitrate_reset hc]
  rfl

/-- Settles O13: RESET leaves the block in Idle, where TX_DONE is ignored (R166). -/
theorem resetAbandonsTransmission : Obligations.ResetAbandonsTransmission := by
  unfold Obligations.ResetAbandonsTransmission
  intro s
  refine ⟨_, _, exec_reset s, rfl, exec_txDone _, ?_⟩
  rw [quiet_block, transmitDone_ignored _ (by simp)]
  exact ⟨rfl, rfl⟩

/-- Settles O60: the identity that R111 compares with is 0x00, 0x00 after reset. -/
theorem resetIdentityFilter : Obligations.ResetIdentityFilter := by
  unfold Obligations.ResetIdentityFilter
  intro cfg len D hacc
  obtain ⟨-, -, hmatch⟩ := (accept_iff cfg _ len D).mp hacc
  have hdst : D[0] = cfg.broadcastType ∨ (D[0] = 0x00#8 ∧ D[1] = 0x00#8) := (addrMatch_iff cfg _ D).mp hmatch
  refine ⟨hdst.resolve_left, fun hzero => ?_⟩
  obtain hbroadcast | ⟨htype, -⟩ := hdst
  · exact hbroadcast
  · exact htype.trans hzero.symm

end Sys2Proof.Machine
end
